-- ==== Sys2Proof/Config.lean ====
section
/-! DEFINITION. What an implementation of the block fixes before reset (00_scope.md R8 to R12): the
parameters `K`, `POSW`, `DROPW`, the schedule parameter `SCHED`, and the notification reasons. -/

namespace Sys2Proof

/-- `SCHED` (R11): which interleavings of the two agents' micro-steps are admitted. -/
inductive Sched where
  /-- `FULL_INTERLEAVE`, the default and normative value: any interleaving. -/
  | fullInterleave
  /-- `PREEMPT_ONLY`: no consumer step falls inside a push. -/
  | preemptOnly
  deriving DecidableEq, Repr

/-- A notification reason (R12). The spec gives an opaque type with one distinguished constant and
compares a reason with that constant for equality, nothing else; so a reason is that constant or one
of the others, told apart by a name of this model (log entry 6, DESIGN CHOICE). -/
inductive Reason where
  /-- `REASON_RX`, the code that means "frame received". -/
  | rx
  /-- Any other reason code. -/
  | other (code : Nat)
  deriving DecidableEq, Repr

/-- `REASON_RX` (R12). -/
abbrev Config.reasonRx : Reason := .rx

/-- The sizes a queue is constructed with (R8, R9, R10). They stand in State, because `RESET` takes
them (R280), so a statement about every state is a statement about every size. -/
structure Params where
  /-- `K`, the base-2 logarithm of the number of slots (R8). -/
  k : Nat
  /-- `POSW`, the width in bits of each position counter (R9). -/
  posw : Nat
  /-- `DROPW`, the width in bits of the drop counter (R10). -/
  dropw : Nat
  deriving DecidableEq, Repr

/-- `CAP = 2^K`, the number of slots (R8). -/
def Params.cap (p : Params) : Nat := 2 ^ p.k

/-- `MASK = CAP - 1` (R8). -/
def Params.mask (p : Params) : Nat := p.cap - 1

/-- The sizes a queue may be constructed with: `POSW >= K` (R9, R282) and `DROPW >= 1` (R10). -/
abbrev Params.Legal (p : Params) : Prop := p.k ≤ p.posw ∧ 1 ≤ p.dropw

/-- The `K` of the machine that `State.reset` describes. R8: "`K` is OPEN, no default"; so it has no
body and no proof can see it. At most 32, because `POSW >= K` and `State.reset` takes the default
`POSW = 32` (log entry 1). -/
opaque Config.k : Fin 33

/-- The sizes `State.reset` is constructed with: `K` open, `POSW` and `DROPW` at the spec's defaults
(R9, R10). -/
def Config.params : Params := { k := Config.k.val, posw := 32, dropw := 32 }

/-- `SCHED` of `State.reset`: the default of R11. -/
def Config.sched : Sched := .fullInterleave

end Sys2Proof
end

