-- ==== Sys2Proof/Word.lean ====
section
/-! DEFINITION. The bit vectors the spec names: a byte of payload, the 32-bit identifier word, and
the 120-bit word in which one invocation of an operation is written down (Decode.lean says how). -/

namespace Sys2Proof

/-- One payload byte (R25: "8 bytes of 8 bits each"). -/
abbrev Byte := BitVec 8

/-- The identifier word: the 29-bit extended identifier "stored widened to 32 bits" (R25, R81). -/
abbrev Ident := BitVec 32

/-- One written invocation: 15 bytes, bit 0 least significant (R13). The spec gives the operation
selector three bits and a CanFrame one hundred and names no container for them; the container is this
model's (log entry 8, DESIGN CHOICE). -/
abbrev Word := BitVec 120

end Sys2Proof
end

