-- ==== Sys2Proof/Syntax.lean ====
section
/-! DEFINITION. The values the block moves (a CanFrame, a DecodedFrame) and the one inductive of its
operations: one constructor per row of spec/opcode_table.json, seven operation rows and twenty-seven
classification rows. A classification row's operand is the frame whose identifier selects it. -/

namespace Sys2Proof

/-- The eight payload bytes `payload[0] .. payload[7]` (R25, R83). -/
structure Payload where
  b0 : Byte
  b1 : Byte
  b2 : Byte
  b3 : Byte
  b4 : Byte
  b5 : Byte
  b6 : Byte
  b7 : Byte
  deriving DecidableEq, Repr

/-- A CanFrame, 100 bits of plain data (R25): `id` 32 bits (R81), `dlc` 4 bits (R82), `payload` exactly
8 bytes (R83). Every bit pattern is a CanFrame. -/
structure CanFrame where
  id : Ident
  dlc : BitVec 4
  payload : Payload
  deriving DecidableEq, Repr

/-- `ContentClass`, the classification of a control frame (R90). -/
inductive ContentClass where
  | ctrlReserved
  | rid
  | amd
  | ame
  | amr
  | eir0
  | eir1
  | eir2
  | eir3
  | cid
  deriving DecidableEq, Repr

/-- `FormatClass`, the classification of an OpenLCB frame by `frameFormat` (R91). -/
inductive FormatClass where
  | reserved
  | globalAddressedMti
  | datagramComplete
  | datagramFirst
  | datagramMiddle
  | datagramFinal
  | streamData
  deriving DecidableEq, Repr

/-- `MtiClass`, the classification of a format-1 frame (R92). -/
inductive MtiClass where
  | undeciphered
  | initializationComplete
  | consumerIdentifiedValid
  | consumerIdentifiedInvalid
  | consumerIdentifiedUnknown
  | none
  deriving DecidableEq, Repr

/-- What is reported of a control frame (R89). -/
structure ControlFrame where
  content : BitVec 15
  contentClass : ContentClass
  frameSeqNum : BitVec 3
  sourceNidAlias : BitVec 12
  deriving DecidableEq, Repr

/-- The detail reported of a format-1 frame (R89). -/
structure Mti where
  mti : BitVec 12
  grossPriority : BitVec 2
  typeWithinPriority : BitVec 5
  simpleProtocol : BitVec 1
  addressPresent : BitVec 1
  eventPresent : BitVec 1
  messageModifier : BitVec 2
  sourceAddress : BitVec 12
  nodeAddressValid : BitVec 1
  nodeAddress : BitVec 48
  mtiClass : MtiClass
  deriving DecidableEq, Repr

/-- What is reported of an OpenLCB frame (R89): `detail` is present exactly for `frameFormat == 1`. -/
structure OpenLcbFrame where
  frameFormat : BitVec 3
  formatClass : FormatClass
  detail : Option Mti
  deriving DecidableEq, Repr

/-- `DecodedFrame`, "a tagged classification" (R89). -/
inductive DecodedFrame where
  | control (c : ControlFrame)
  | openLcb (o : OpenLcbFrame)
  deriving DecidableEq, Repr

/-- The operations: spec/opcode_table.json row by row, in its order. -/
inductive Instr where
  /-- `RESET` (R280): the construction of the queue, with its parameters. -/
  | reset (k posw dropw : Nat)
  /-- `PUSH f` (R131). -/
  | push (f : CanFrame)
  /-- `POP` (R137). -/
  | pop
  /-- `DROPCOUNT` (R142). -/
  | dropCount
  /-- `CLASSIFY f` (R170). -/
  | classify (f : CanFrame)
  /-- `NOTIFY reason, f` (R230). -/
  | notify (reason : Reason) (f : CanFrame)
  /-- `CONSUME_ITER` (R232). -/
  | consumeIter
  /-- Row `RID` (R174). -/
  | rid (f : CanFrame)
  /-- Row `AMD` (R175). -/
  | amd (f : CanFrame)
  /-- Row `AME` (R176). -/
  | ame (f : CanFrame)
  /-- Row `AMR` (R177). -/
  | amr (f : CanFrame)
  /-- Row `EIR0` (R178). -/
  | eir0 (f : CanFrame)
  /-- Row `EIR1` (R179). -/
  | eir1 (f : CanFrame)
  /-- Row `EIR2` (R180). -/
  | eir2 (f : CanFrame)
  /-- Row `EIR3` (R181). -/
  | eir3 (f : CanFrame)
  /-- Row `CTRL_RESERVED_1000` (R183): `content == 0x1000`. -/
  | ctrlReserved1000 (f : CanFrame)
  /-- Row `CID_HI` (R182): `id[26]` set. -/
  | cidHi (f : CanFrame)
  /-- Row `CID_MID` (R182): `id[26:25] == 1`. -/
  | cidMid (f : CanFrame)
  /-- Row `CID_LO` (R182): `id[26:24] == 1`, less the row `CTRL_RESERVED_1000`. -/
  | cidLo (f : CanFrame)
  /-- Row `CTRL_RESERVED` (R183), the default of the control rows. -/
  | ctrlReserved (f : CanFrame)
  /-- Row `OLCB_RESERVED0` (R185). -/
  | olcbReserved0 (f : CanFrame)
  /-- Row `OLCB_GLOBAL_ADDRESSED_MTI` (R186). -/
  | olcbGlobalAddressedMti (f : CanFrame)
  /-- Row `OLCB_DATAGRAM_COMPLETE` (R195). -/
  | olcbDatagramComplete (f : CanFrame)
  /-- Row `OLCB_DATAGRAM_FIRST` (R196). -/
  | olcbDatagramFirst (f : CanFrame)
  /-- Row `OLCB_DATAGRAM_MIDDLE` (R197). -/
  | olcbDatagramMiddle (f : CanFrame)
  /-- Row `OLCB_DATAGRAM_FINAL` (R198). -/
  | olcbDatagramFinal (f : CanFrame)
  /-- Row `OLCB_RESERVED6` (R199). -/
  | olcbReserved6 (f : CanFrame)
  /-- Row `OLCB_STREAM_DATA` (R200). -/
  | olcbStreamData (f : CanFrame)
  /-- Row `MTI_INITIALIZATION_COMPLETE` (R189). -/
  | mtiInitializationComplete (f : CanFrame)
  /-- Row `MTI_CONSUMER_IDENTIFIED_VALID` (R190). -/
  | mtiConsumerIdentifiedValid (f : CanFrame)
  /-- Row `MTI_CONSUMER_IDENTIFIED_INVALID` (R191). -/
  | mtiConsumerIdentifiedInvalid (f : CanFrame)
  /-- Row `MTI_NONE` (R193). -/
  | mtiNone (f : CanFrame)
  /-- Row `MTI_CONSUMER_IDENTIFIED_UNKNOWN` (R192). -/
  | mtiConsumerIdentifiedUnknown (f : CanFrame)
  /-- Row `MTI_UNDECIPHERED` (R194), the default of the format-1 rows. -/
  | mtiUndeciphered (f : CanFrame)
  deriving DecidableEq, Repr

end Sys2Proof
end

