-- ==== Sys2Proof/Decode.lean ====
section
/-! DEFINITION. Reading an invocation from its word and writing it down: the packed CanFrame (R80),
the operation selectors (R99) and the classification rows of spec/opcode_table.json (R98), then the
encoder. Decoding is total on every word and refuses by name. -/

namespace Sys2Proof

/-- Which of the table's encoding spaces a word is read in: the operation rows are over the 3-bit
selector, the classification rows over the identifier of a frame, and the `ID-MTI` rows refine one
`ID-OLCB` row on the very same identifiers (R98), so the space is said beside the word. -/
inductive Space where
  /-- Operation rows, `"format": "OP"`. -/
  | op
  /-- Rows `ID-CTRL` and `ID-OLCB`: the first classification of any frame. -/
  | frame
  /-- Rows `ID-MTI`: the second classification, of a format-1 frame. -/
  | mti
  deriving DecidableEq, Repr

/-- Why a word is no invocation. -/
inductive DecodeError where
  /-- A selector R99 gives to no operation (only 7 is left). -/
  | unknownSelector (selector : Nat)
  /-- A bit outside the selector and the operands is set. -/
  | reservedBits
  /-- An `ID-MTI` row is asked for and the identifier is not of format 1. -/
  | notFormatOne
  /-- No row applies; the rows' defaults leave no identifier here (R97). -/
  | noRow
  deriving DecidableEq, Repr

/-! ### The packed CanFrame -/

/-- A field at bit `lo` of an `m`-bit vector, zeros elsewhere. -/
def place {n : Nat} (m : Nat) (v : BitVec n) (lo : Nat) : BitVec m := v.setWidth m <<< lo

/-- A CanFrame's 100 bits (R80): `id` 31:0, `dlc` 35:32, `payload[k]` at `36+8k+7 : 36+8k`. -/
def CanFrame.pack (f : CanFrame) : BitVec 100 :=
  place 100 f.id 0 ||| place 100 f.dlc 32 |||
    place 100 f.payload.b0 36 ||| place 100 f.payload.b1 44 ||| place 100 f.payload.b2 52 |||
    place 100 f.payload.b3 60 ||| place 100 f.payload.b4 68 ||| place 100 f.payload.b5 76 |||
    place 100 f.payload.b6 84 ||| place 100 f.payload.b7 92

/-- The CanFrame a 100-bit vector holds (R80). -/
def CanFrame.unpack (v : BitVec 100) : CanFrame where
  id := v.extractLsb' 0 32
  dlc := v.extractLsb' 32 4
  payload :=
    { b0 := v.extractLsb' 36 8
      b1 := v.extractLsb' 44 8
      b2 := v.extractLsb' 52 8
      b3 := v.extractLsb' 60 8
      b4 := v.extractLsb' 68 8
      b5 := v.extractLsb' 76 8
      b6 := v.extractLsb' 84 8
      b7 := v.extractLsb' 92 8 }

/-! ### The classification rows -/

/-- One classification row of spec/opcode_table.json: it applies when `id & mask == pattern`; rows of
a format are tried in increasing priority (R98). -/
structure Row where
  pattern : Ident
  mask : Ident
  priority : Nat
  make : CanFrame → Instr

/-- Does the row apply to this identifier (R98)? -/
def Row.applies (r : Row) (id : Ident) : Bool := id &&& r.mask == r.pattern

/-- The `ID-CTRL` rows (R94), by increasing priority. -/
def ctrlRows : List Row := [
  ⟨0x00700000, 0x0FFFF000, 0, .rid⟩,
  ⟨0x00701000, 0x0FFFF000, 0, .amd⟩,
  ⟨0x00702000, 0x0FFFF000, 0, .ame⟩,
  ⟨0x00703000, 0x0FFFF000, 0, .amr⟩,
  ⟨0x00710000, 0x0FFFF000, 0, .eir0⟩,
  ⟨0x00711000, 0x0FFFF000, 0, .eir1⟩,
  ⟨0x00712000, 0x0FFFF000, 0, .eir2⟩,
  ⟨0x00713000, 0x0FFFF000, 0, .eir3⟩,
  ⟨0x01000000, 0x0FFFF000, 0, .ctrlReserved1000⟩,
  ⟨0x04000000, 0x0C000000, 1, .cidHi⟩,
  ⟨0x02000000, 0x0E000000, 1, .cidMid⟩,
  ⟨0x01000000, 0x0F000000, 1, .cidLo⟩,
  ⟨0x00000000, 0x08000000, 2, .ctrlReserved⟩]

/-- The `ID-OLCB` rows (R95), all of priority 0. -/
def olcbRows : List Row := [
  ⟨0x08000000, 0x0F000000, 0, .olcbReserved0⟩,
  ⟨0x09000000, 0x0F000000, 0, .olcbGlobalAddressedMti⟩,
  ⟨0x0A000000, 0x0F000000, 0, .olcbDatagramComplete⟩,
  ⟨0x0B000000, 0x0F000000, 0, .olcbDatagramFirst⟩,
  ⟨0x0C000000, 0x0F000000, 0, .olcbDatagramMiddle⟩,
  ⟨0x0D000000, 0x0F000000, 0, .olcbDatagramFinal⟩,
  ⟨0x0E000000, 0x0F000000, 0, .olcbReserved6⟩,
  ⟨0x0F000000, 0x0F000000, 0, .olcbStreamData⟩]

/-- The `ID-MTI` rows (R96), by increasing priority. -/
def mtiRows : List Row := [
  ⟨0x09100000, 0x0FFE0000, 0, .mtiInitializationComplete⟩,
  ⟨0x094C0000, 0x0FFE3000, 0, .mtiConsumerIdentifiedValid⟩,
  ⟨0x094C1000, 0x0FFE3000, 0, .mtiConsumerIdentifiedInvalid⟩,
  ⟨0x094C2000, 0x0FFE3000, 0, .mtiNone⟩,
  ⟨0x094C3000, 0x0FFE3000, 0, .mtiConsumerIdentifiedUnknown⟩,
  ⟨0x09000000, 0x0F000000, 1, .mtiUndeciphered⟩]

/-- The first row that applies (R98). -/
def firstRow (rows : List Row) (f : CanFrame) : Except DecodeError Instr :=
  match rows.find? (·.applies f.id) with
  | some r => .ok (r.make f)
  | none => .error .noRow

/-- The first classification of a frame: the control rows when `id[27] == 0`, else the OpenLCB rows
(R98). -/
def decodeFrame (f : CanFrame) : Except DecodeError Instr :=
  if f.id &&& 0x08000000 == 0 then firstRow ctrlRows f else firstRow olcbRows f

/-- The second classification of a frame, defined when the first is `FMT_GLOBAL_ADDRESSED_MTI`
(R98). -/
def decodeMti (f : CanFrame) : Except DecodeError Instr :=
  if f.id &&& 0x0F000000 == 0x09000000 then firstRow mtiRows f else .error .notFormatOne

/-! ### The operation rows -/

/-- A selector followed by operands of `n` bits: every bit above them must be 0 (log entry 8). -/
def operands (w : Word) (n : Nat) (i : Instr) : Except DecodeError Instr :=
  if w >>> (8 + n) == 0 then .ok i else .error .reservedBits

/-- The operation a reason byte stands for: 0 is `REASON_RX`, any other byte another reason (log
entry 6). -/
def Reason.ofByte (b : Byte) : Reason := if b == 0 then .rx else .other b.toNat

/-- The byte a reason is written as. -/
def Reason.toByte : Reason → Byte
  | .rx => 0
  | .other c => BitVec.ofNat 8 c

/-- An operation word (R99): the selector in bits 2:0, the operands from bit 8 on. -/
def decodeOp (w : Word) : Except DecodeError Instr :=
  if w.extractLsb' 3 5 != 0 then .error .reservedBits else
  match (w.extractLsb' 0 3).toNat with
  | 0 =>
    operands w 24 (.reset (w.extractLsb' 8 8).toNat (w.extractLsb' 16 8).toNat
      ((w.extractLsb' 24 8).toNat + 1))
  | 1 => operands w 100 (.push (.unpack (w.extractLsb' 8 100)))
  | 2 => operands w 0 .pop
  | 3 => operands w 0 .dropCount
  | 4 => operands w 100 (.classify (.unpack (w.extractLsb' 8 100)))
  | 5 => operands w 108 (.notify (.ofByte (w.extractLsb' 8 8)) (.unpack (w.extractLsb' 16 100)))
  | 6 => operands w 0 .consumeIter
  | s => .error (.unknownSelector s)

/-- The frame a word of a frame space holds: bits 99:0, the rest 0 (R80). -/
def frameOfWord (w : Word) : Except DecodeError CanFrame :=
  if w >>> 100 == 0 then .ok (.unpack (w.extractLsb' 0 100)) else .error .reservedBits

/-- The decoder: total on every space and word. -/
def decode (sp : Space) (w : Word) : Except DecodeError Instr :=
  match sp with
  | .op => decodeOp w
  | .frame =>
    match frameOfWord w with
    | .ok f => decodeFrame f
    | .error e => .error e
  | .mti =>
    match frameOfWord w with
    | .ok f => decodeMti f
    | .error e => .error e

/-! ### The encoder -/

/-- An operation word: the selector in the lowest byte, the operands from bit 8 on. -/
def opWord (selector : Byte) (args : Word) : Word := place 120 selector 0 ||| args

/-- A frame word: the packed frame, zeros above. -/
def frameWord (f : CanFrame) : Word := place 120 f.pack 0

/-- The operands of `RESET`: `K`, `POSW` and `DROPW - 1`, one byte each (log entry 8). -/
def resetArgs (k posw dropw : Nat) : Word :=
  place 120 (BitVec.ofNat 8 k) 8 ||| place 120 (BitVec.ofNat 8 posw) 16 |||
    place 120 (BitVec.ofNat 8 (dropw - 1)) 24

/-- The space and the word an operation is written as (R80, R98, R99). -/
def encode : Instr → Space × Word
  | .reset k posw dropw => (.op, opWord 0 (resetArgs k posw dropw))
  | .push f => (.op, opWord 1 (place 120 f.pack 8))
  | .pop => (.op, opWord 2 0)
  | .dropCount => (.op, opWord 3 0)
  | .classify f => (.op, opWord 4 (place 120 f.pack 8))
  | .notify r f => (.op, opWord 5 (place 120 r.toByte 8 ||| place 120 f.pack 16))
  | .consumeIter => (.op, opWord 6 0)
  | .rid f => (.frame, frameWord f)
  | .amd f => (.frame, frameWord f)
  | .ame f => (.frame, frameWord f)
  | .amr f => (.frame, frameWord f)
  | .eir0 f => (.frame, frameWord f)
  | .eir1 f => (.frame, frameWord f)
  | .eir2 f => (.frame, frameWord f)
  | .eir3 f => (.frame, frameWord f)
  | .ctrlReserved1000 f => (.frame, frameWord f)
  | .cidHi f => (.frame, frameWord f)
  | .cidMid f => (.frame, frameWord f)
  | .cidLo f => (.frame, frameWord f)
  | .ctrlReserved f => (.frame, frameWord f)
  | .olcbReserved0 f => (.frame, frameWord f)
  | .olcbGlobalAddressedMti f => (.frame, frameWord f)
  | .olcbDatagramComplete f => (.frame, frameWord f)
  | .olcbDatagramFirst f => (.frame, frameWord f)
  | .olcbDatagramMiddle f => (.frame, frameWord f)
  | .olcbDatagramFinal f => (.frame, frameWord f)
  | .olcbReserved6 f => (.frame, frameWord f)
  | .olcbStreamData f => (.frame, frameWord f)
  | .mtiInitializationComplete f => (.mti, frameWord f)
  | .mtiConsumerIdentifiedValid f => (.mti, frameWord f)
  | .mtiConsumerIdentifiedInvalid f => (.mti, frameWord f)
  | .mtiNone f => (.mti, frameWord f)
  | .mtiConsumerIdentifiedUnknown f => (.mti, frameWord f)
  | .mtiUndeciphered f => (.mti, frameWord f)

/-! ### Words as spec/opcode_table.json numbers them -/

/-- The space a table row's word stands in: an operation row has one byte, a classification row four;
of the two rows a format-1 identifier matches, the `ID-MTI` one (the finer) is read (log entry 9). -/
def tableSpace (nbits w : Nat) : Space :=
  if nbits ≤ 8 then .op
  else if BitVec.ofNat 32 w &&& 0x0F000000 == (0x09000000 : Ident) then .mti
  else .frame

/-- The invocation word whose low `nbits` bits are `w` and whose operands are zeros. -/
def tableWord (nbits w : Nat) : Word := BitVec.ofNat 120 (w % 2 ^ nbits)

/-- The operation the decoder reads from a table row's word. -/
def decodeTableWord (nbits w : Nat) : Option Instr :=
  match decode (tableSpace nbits w) (tableWord nbits w) with
  | .ok i => some i
  | .error _ => none

end Sys2Proof
end

