-- ==== Sys2Proof/Machine/State.lean ====
section
/-! DEFINITION. The machine's state as plain data (10_state.md), the reasons it can stop, and the
state right after reset (R34, R281). -/

namespace Sys2Proof.Machine

/-- The slot array (R23, R50) as the slots written so far: index and frame, indexes strictly rising. An
index not listed holds no value (R23: "A model represents an unwritten slot as 'no value'"). The unit
is one slot: "Nothing smaller than a slot is addressable" (R50). -/
abbrev Memory := List (Nat × CanFrame)

/-- Which call a push in progress answers to: `PUSH` itself, or the driver's `NOTIFY`, which discards
the result (R230). -/
inductive PushCaller where
  | push
  | notify
  deriving DecidableEq, Repr

/-- Which call a pop in progress answers to: `POP` itself, or the loop iteration around it (R232). -/
inductive PopCaller where
  | pop
  | consumeIter
  deriving DecidableEq, Repr

/-- The producer's local state (R28): the constructor is `P.phase`, its arguments are `P.f` and `P.q`,
which "hold no value" in phase `IDLE`. -/
inductive Producer where
  | idle
  | loaded (caller : PushCaller) (f : CanFrame) (q : Nat)
  | written (caller : PushCaller) (f : CanFrame) (q : Nat)
  deriving DecidableEq, Repr

/-- The consumer's local state (R29): the constructor is `C.phase`, its arguments are `C.p` and `C.g`.
`reporting` is not a phase of the pop: its pop has returned and `C.phase` is `IDLE` (R141), and the
consumer-local step of `CONSUME_ITER` for the frame that pop returned is to come (R232; log entries 16
and 24). -/
inductive Consumer where
  | idle
  | loaded (caller : PopCaller) (p : Nat)
  | read (caller : PopCaller) (p : Nat) (g : CanFrame)
  | reporting (g : CanFrame)
  deriving DecidableEq, Repr

/-- `P.phase` (R28). -/
inductive ProducerPhase where
  | idle
  | loaded
  | written
  deriving DecidableEq, Repr

/-- `C.phase` (R29). -/
inductive ConsumerPhase where
  | idle
  | loaded
  | read
  deriving DecidableEq, Repr

/-- Where the queue stands in its life (R36, R280, R283): not constructed; constructed by the host before
the run, with no operation invoked since; in use, or constructed by a `RESET` of the run. A `RESET` is a
move in the first two only (log entry 2). -/
inductive Lifecycle where
  | unbuilt
  | fresh
  | running
  deriving DecidableEq, Repr

/-- One move of the environment (R234, R11): it invokes an operation, or lets an agent take the next
micro-step of the operation it has in progress. -/
inductive Input where
  /-- An operation is invoked and runs whole, no step of the other agent inside it. -/
  | run (space : Space) (word : Word)
  /-- An operation is invoked and takes its first micro-step only (R132, R138). -/
  | start (space : Space) (word : Word)
  /-- The producer takes its next micro-step. -/
  | producer
  /-- The consumer takes its next micro-step. -/
  | consumer
  /-- The host constructs the queue from a raw capacity (R254, R282). -/
  | construct (capacity posw dropw : Nat)
  deriving DecidableEq, Repr

/-- What each operation last handed back to its caller (R14 "return v", R37): a model's field, written
where the spec says `return`, read by nothing (log entry 4). -/
structure Returns where
  /-- `ok` of the last `PUSH`. -/
  push : Option Bool
  /-- The last `POP`'s result: nothing, or the frame. -/
  pop : Option (Option CanFrame)
  /-- The last `DROPCOUNT`. -/
  dropCount : Option Nat
  /-- The last `CLASSIFY`, or the last classification row run as an operation. -/
  classify : Option DecodedFrame
  /-- The last `CONSUME_ITER`'s result: nothing, or the DecodedFrame. -/
  consumeIter : Option (Option DecodedFrame)
  deriving DecidableEq, Repr

/-- The ghost record (R35), read by no step (log entry 3): `stored` lists `frame(0), frame(1), …` in
the order of their publish steps, so `PUSHED` is its length; `taken` lists the frames of the advance
steps, so `POPPED` is its length; `drops` counts the drop steps (R142). -/
structure Ghost where
  stored : List CanFrame
  taken : List CanFrame
  drops : Nat
  deriving DecidableEq, Repr

/-- The state: the architectural state of R20, the agents' local state of R28 and R29, the parameters
`RESET` took (R280), the environment's moves still to come, what was handed to `Report` (R233), and
the ghost record. -/
structure State where
  /-- `K`, `POSW`, `DROPW` (R8 to R10). -/
  params : Params
  /-- `SCHED` (R11). -/
  sched : Sched
  lifecycle : Lifecycle
  /-- `pushPosition`, `POSW` bits, unsigned (R21). -/
  pushPosition : Nat
  /-- `pullPosition`, `POSW` bits, unsigned (R22). -/
  pullPosition : Nat
  /-- `dropCount`, `DROPW` bits, unsigned (R24). -/
  dropCount : Nat
  /-- `slots[0 .. CAP-1]` (R23). -/
  slots : Memory
  /-- `P.phase`, `P.f`, `P.q` (R28). -/
  producer : Producer
  /-- `C.phase`, `C.p`, `C.g` (R29). -/
  consumer : Consumer
  /-- The environment's moves, the next one first (R39: inputs of a step). -/
  inputs : List Input
  /-- The DecodedFrames handed to `Report`, the first one first (R233). -/
  reported : List DecodedFrame
  returns : Returns
  ghost : Ghost
  deriving DecidableEq, Repr

/-- Why the machine stops with a fault. -/
inductive Fault where
  /-- A slot that no push has written is read (R23: a model "faults on reading one"). Raised by
  `POP.READ`, and so by `POP` and `CONSUME_ITER`. Safe: no claim can rest on such a slot's contents.
  Unreachable from reset (R152). -/
  | unwrittenSlot (index : Nat)
  deriving DecidableEq, Repr

/-- Why the model gives a move no meaning. -/
inductive Refusal where
  /-- No meaning yet: raised by the arms of `exec` alone. Safe. -/
  | notModelled (mnemonic : String)
  /-- The move's word is no invocation. Raised by the step, from the decoder. Safe. -/
  | undecodable (e : DecodeError)
  /-- A queue operation before the queue is constructed (R284: "the model has no such run"). Raised by
  the operations that need the queue. Safe. -/
  | notConstructed
  /-- A second construction (R283, U3: "not a move of the model's environment"). Raised by `RESET`.
  Unsafe towards a system that constructs again (R295). -/
  | secondReset
  /-- A capacity that is no power of two (R282). Raised by the construction from a capacity. Safe. -/
  | notPowerOfTwo (capacity : Nat)
  /-- `POSW < K` (R282). Raised by `RESET`. Safe. -/
  | positionTooNarrow
  /-- `DROPW = 0` (R10 wants `DROPW >= 1`; the refusal is log entry 18). Raised by `RESET`. Safe. -/
  | dropCounterTooNarrow
  /-- A push begun while one is in progress (R151 (a), U2). Raised by `PUSH` and `NOTIFY`. Unsafe
  towards a system that nests pushes (R295). -/
  | nestedPush
  /-- A pop begun while one is in progress (R151 (b), U1). Raised by `POP` and `CONSUME_ITER`. Unsafe
  towards a system with a second consumer (R295). -/
  | nestedPop
  /-- A consumer step inside a push under `PREEMPT_ONLY`, which does not admit it (R11). Raised by
  the consumer's operations and micro-steps. Safe under the parameter the machine has. -/
  | consumerInsidePush
  deriving DecidableEq, Repr

/-- The state after construction (R34, R281): both positions, the drop counter and the ghost record
zero, no slot written, both agents idle; nothing returned, nothing reported, no move pending. -/
def State.constructed (p : Params) (sc : Sched) : State where
  params := p
  sched := sc
  lifecycle := .fresh
  pushPosition := 0
  pullPosition := 0
  dropCount := 0
  slots := []
  producer := .idle
  consumer := .idle
  inputs := []
  reported := []
  returns := ⟨none, none, none, none, none⟩
  ghost := ⟨[], [], 0⟩

/-- The machine right after reset (R281), constructed with the sizes of Config. -/
def State.reset : State := .constructed Config.params Config.sched

end Sys2Proof.Machine
end

