-- ==== Sys2Proof/Machine/Operands.lean ====
section
/-! DEFINITION. What an operation reads its operands from: the slot index a position selects (R51) and
the fields of an identifier, each by the mask and the logical right shift of R87. -/

namespace Sys2Proof.Machine

/-- `pos & MASK`, the slot a position counter selects (R51). -/
def slotIndex (p : Params) (pos : Nat) : Nat := pos &&& p.mask

/-- `(id & mask) >> shift`, as a field of `n` bits (R87). -/
def field (id mask : Ident) (shift n : Nat) : BitVec n := ((id &&& mask) >>> shift).setWidth n

/-- `family`, `id[27]` (R84). -/
def family (id : Ident) : BitVec 1 := field id 0x08000000 27 1

/-- `frameFormat`, `id[26:24]` (R85). -/
def frameFormat (id : Ident) : BitVec 3 := field id 0x07000000 24 3

/-- `grossPriority`, `id[23:22]` (R85). -/
def grossPriority (id : Ident) : BitVec 2 := field id 0x00C00000 22 2

/-- `typeWithinPriority`, `id[21:17]` (R85). -/
def typeWithinPriority (id : Ident) : BitVec 5 := field id 0x003E0000 17 5

/-- `simpleProtocol`, `id[16]` (R85). -/
def simpleProtocol (id : Ident) : BitVec 1 := field id 0x00010000 16 1

/-- `addressPresent`, `id[15]` (R85). -/
def addressPresent (id : Ident) : BitVec 1 := field id 0x00008000 15 1

/-- `eventPresent`, `id[14]` (R85). -/
def eventPresent (id : Ident) : BitVec 1 := field id 0x00004000 14 1

/-- `messageModifier`, `id[13:12]` (R85). -/
def messageModifier (id : Ident) : BitVec 2 := field id 0x00003000 12 2

/-- `sourceAddress`, `id[11:0]` (R85). -/
def sourceAddress (id : Ident) : BitVec 12 := field id 0x00000FFF 0 12

/-- `mti`, `id[23:12]` (R85). -/
def mti (id : Ident) : BitVec 12 := field id 0x00FFF000 12 12

/-- `content`, `id[26:12]` (R86). -/
def content (id : Ident) : BitVec 15 := field id 0x07FFF000 12 15

/-- `frameSeqNum`, `content >> 12` (R86). -/
def frameSeqNum (id : Ident) : BitVec 3 := (content id >>> 12).setWidth 3

/-- `sourceNidAlias`, `id[11:0]` (R86). -/
def sourceNidAlias (id : Ident) : BitVec 12 := field id 0x00000FFF 0 12

/-- `nodeAddressValid`: 1 exactly when `dlc == 6` (R88). -/
def nodeAddressValid (f : CanFrame) : BitVec 1 := if f.dlc == 6 then 1 else 0

/-- `payload[k]` at its place in the 48-bit node identifier. -/
def lane (b : Byte) (shift : Nat) : BitVec 48 := b.setWidth 48 <<< shift

/-- `nodeAddress`: the first six payload bytes, byte 0 the most significant, when `dlc == 6`; else 0
(R53, R88). -/
def nodeAddress (f : CanFrame) : BitVec 48 :=
  if f.dlc == 6 then
    lane f.payload.b0 40 ||| lane f.payload.b1 32 ||| lane f.payload.b2 24 |||
      lane f.payload.b3 16 ||| lane f.payload.b4 8 ||| lane f.payload.b5 0
  else 0

end Sys2Proof.Machine
end

