-- ==== Sys2Proof/Machine/Flags.lean ====
section
/-! DEFINITION. The block has no flag register; three derived predicates play the part of status flags
and none is stored (R30). The result flags `ok` and `valid` of R37 are what the operations return. -/

namespace Sys2Proof.Machine

/-- The full test on two positions: `((push + 1) & MASK) == (pull & MASK)`, on the low `K` bits after
the increment (R30, R143 (c)). -/
def fullAt (p : Params) (push pull : Nat) : Bool := slotIndex p (push + 1) == slotIndex p pull

/-- The empty test on two positions: all `POSW` bits compared (R30, R143 (d)). -/
def emptyAt (push pull : Nat) : Bool := push == pull

/-- `OCC`, `(pushPosition - pullPosition) mod 2^POSW` (R30). -/
def State.occ (s : State) : Nat :=
  (s.pushPosition + (2 ^ s.params.posw - s.pullPosition % 2 ^ s.params.posw)) % 2 ^ s.params.posw

/-- `EMPTY` (R30). -/
def State.empty (s : State) : Bool := emptyAt s.pushPosition s.pullPosition

/-- `FULL` (R30). -/
def State.full (s : State) : Bool := fullAt s.params s.pushPosition s.pullPosition

end Sys2Proof.Machine
end

