-- ==== Sys2Proof/Machine/Ops.lean ====
section
/-! DEFINITION. The named operations over memory and registers: `SlotRead` and `SlotWrite`, `AtomicLoad`
and `AtomicStore` (R14), the counters' increments, what an operation hands back, and the conditions
under which an agent may begin. There is no operation that takes an exception and none that returns
from one: "The running block raises no exception, takes no trap and has no fault state" (R250), and the
producer's preemption saves and changes nothing of the block (R259). -/

namespace Sys2Proof.Machine

/-! ### The slot array -/

/-- `SlotRead(i)`: the frame in slot `i`, or no value (R14, R23). -/
def Memory.read : Memory → Nat → Option CanFrame
  | [], _ => none
  | (j, f) :: rest, i => if j = i then some f else Memory.read rest i

/-- `SlotWrite(i, f)`: slot `i` holds `f`, every other slot what it held (R14, R52). -/
def Memory.write : Memory → Nat → CanFrame → Memory
  | [], i, f => [(i, f)]
  | (j, g) :: rest, i, f =>
    if i < j then (i, f) :: (j, g) :: rest
    else if i = j then (i, f) :: rest
    else (j, g) :: Memory.write rest i f

/-- The canonical form: indexes strictly rising, so equal slot arrays are equal lists. -/
abbrev Memory.wf (m : Memory) : Prop := m.Pairwise (fun a b => a.1 < b.1)

/-- `SlotRead` on a state. -/
def State.slotRead (s : State) (i : Nat) : Option CanFrame := Memory.read s.slots i

/-- `SlotWrite` on a state. -/
def State.slotWrite (s : State) (i : Nat) (f : CanFrame) : State :=
  { s with slots := Memory.write s.slots i f }

/-! ### The counters -/

/-- `x + 1` on a counter of `width` bits (R14, R143 (a), (e)). -/
def wrapInc (width x : Nat) : Nat := (x + 1) % 2 ^ width

/-- `AtomicLoad(pushPosition)` (R55). -/
def State.loadPush (s : State) : Nat := s.pushPosition

/-- `AtomicLoad(pullPosition)` (R55). -/
def State.loadPull (s : State) : Nat := s.pullPosition

/-- `AtomicStore(pushPosition, v)` (R55). -/
def State.storePush (s : State) (v : Nat) : State := { s with pushPosition := v }

/-- `AtomicStore(pullPosition, v)` (R55). -/
def State.storePull (s : State) (v : Nat) : State := { s with pullPosition := v }

/-- The slot a push writes: `pushPosition & MASK` (R153). -/
def State.pushSlot (s : State) : Nat := slotIndex s.params s.pushPosition

/-- The slot a pop reads: `pullPosition & MASK` (R153). -/
def State.pullSlot (s : State) : Nat := slotIndex s.params s.pullPosition

/-- The publish (R136): `pushPosition` advances by one; the ghost record gains `frame(n)` (R35). -/
def State.publish (s : State) (f : CanFrame) : State :=
  { s.storePush (wrapInc s.params.posw s.pushPosition) with
    ghost := { s.ghost with stored := s.ghost.stored ++ [f] } }

/-- The advance (R141): `pullPosition` advances by one; the ghost record notes the frame taken (R35). -/
def State.advance (s : State) (g : CanFrame) : State :=
  { s.storePull (wrapInc s.params.posw s.pullPosition) with
    ghost := { s.ghost with taken := s.ghost.taken ++ [g] } }

/-- The counted drop (R134): `dropCount` advances by one. -/
def State.dropFrame (s : State) : State :=
  { s with
    dropCount := wrapInc s.params.dropw s.dropCount
    ghost := { s.ghost with drops := s.ghost.drops + 1 } }

/-! ### What an operation hands back -/

/-- A push returns `ok` to `PUSH`'s caller; `NOTIFY` discards it (R131, R230). -/
def State.returnPush (s : State) (c : PushCaller) (ok : Bool) : State :=
  match c with
  | .push => { s with returns := { s.returns with push := some ok } }
  | .notify => s

/-- A pop that found the queue empty returns `none`, and so does the `CONSUME_ITER` around it (R137,
R232). -/
def State.returnEmpty (s : State) (c : PopCaller) : State :=
  match c with
  | .pop => { s with returns := { s.returns with pop := some none } }
  | .consumeIter => { s with returns := { s.returns with consumeIter := some none } }

/-- `POP` returns `some(g)` (R137). -/
def State.returnFrame (s : State) (g : CanFrame) : State :=
  { s with returns := { s.returns with pop := some (some g) } }

/-- `DROPCOUNT` returns `dropCount` (R142). -/
def State.returnDropCount (s : State) : State :=
  { s with returns := { s.returns with dropCount := some s.dropCount } }

/-- `CLASSIFY`, or a classification row, returns a DecodedFrame (R170). -/
def State.returnClass (s : State) (d : DecodedFrame) : State :=
  { s with returns := { s.returns with classify := some d } }

/-- `CONSUME_ITER` hands `d` to `Report` and returns `some(d)` (R232, R233). -/
def State.report (s : State) (d : DecodedFrame) : State :=
  { s with
    reported := s.reported ++ [d]
    returns := { s.returns with consumeIter := some (some d) } }

/-! ### When an operation may begin -/

/-- The queue is in use from its first operation on (R283). -/
def State.inUse (s : State) : State := { s with lifecycle := .running }

/-- `P.phase` (R28, R132). -/
def Producer.phase : Producer → ProducerPhase
  | .idle => .idle
  | .loaded _ _ _ => .loaded
  | .written _ _ _ => .written

/-- `C.phase` (R29, R138). `POP.ADVANCE` sets it to `IDLE` (R141), also inside a `CONSUME_ITER` whose
report is to come (log entry 24). -/
def Consumer.phase : Consumer → ConsumerPhase
  | .idle => .idle
  | .loaded _ _ => .loaded
  | .read _ _ _ => .read
  | .reporting _ => .idle

/-- Is the producer between two pushes (R28)? -/
def Producer.isIdle : Producer → Bool
  | .idle => true
  | _ => false

/-- Has the consumer no operation in progress (R130)? A `CONSUME_ITER` is in progress until its report is
handed over (R232), though `C.phase` is `IDLE` from its `POP.ADVANCE` on (log entry 24). -/
def Consumer.isIdle : Consumer → Bool
  | .idle => true
  | _ => false

/-- Is there a constructed queue (R284)? -/
def State.built (s : State) : Bool :=
  match s.lifecycle with
  | .unbuilt => false
  | _ => true

/-- May a consumer step be taken now? Under `PREEMPT_ONLY` not inside a push (R11, R151 (d)). -/
def State.consumerAdmitted (s : State) : Bool :=
  match s.sched with
  | .fullInterleave => true
  | .preemptOnly => s.producer.isIdle

/-- Why a push may not begin, if it may not (R151 (a), (c)). -/
def State.pushRefusal (s : State) : Option Refusal :=
  if !s.built then some .notConstructed
  else if !s.producer.isIdle then some .nestedPush
  else none

/-- Why a pop may not begin, if it may not (R151 (b), (c), (d)). -/
def State.popRefusal (s : State) : Option Refusal :=
  if !s.built then some .notConstructed
  else if !s.consumer.isIdle then some .nestedPop
  else if !s.consumerAdmitted then some .consumerInsidePush
  else none

end Sys2Proof.Machine
end

