-- ==== Sys2Proof/Machine/Classify.lean ====
section
/-! DEFINITION. The Frame Decoder (41_frame_decoder.md): the pure function `classify` (R170), its
lookups, the flat record of a DecodedFrame (R93), and the operation `CLASSIFY`. -/

namespace Sys2Proof.Machine

/-- `ContentClassOf` (R170, R94). -/
def contentClassOf (c : BitVec 15) : ContentClass :=
  if c == 0x0700 then .rid
  else if c == 0x0701 then .amd
  else if c == 0x0702 then .ame
  else if c == 0x0703 then .amr
  else if c == 0x0710 then .eir0
  else if c == 0x0711 then .eir1
  else if c == 0x0712 then .eir2
  else if c == 0x0713 then .eir3
  else if 0x1000 < c then .cid
  else .ctrlReserved

/-- `FormatClassOf` (R170, R91). -/
def formatClassOf (ff : BitVec 3) : FormatClass :=
  match ff.toNat with
  | 0 => .reserved
  | 1 => .globalAddressedMti
  | 2 => .datagramComplete
  | 3 => .datagramFirst
  | 4 => .datagramMiddle
  | 5 => .datagramFinal
  | 6 => .reserved
  | _ => .streamData

/-- The Consumer Identified variants by `messageModifier` (R190 to R193). -/
def consumerIdentifiedOf (mm : BitVec 2) : MtiClass :=
  match mm.toNat with
  | 0 => .consumerIdentifiedValid
  | 1 => .consumerIdentifiedInvalid
  | 2 => .none
  | _ => .consumerIdentifiedUnknown

/-- `MtiClassOf` (R170, R188): by `grossPriority`, then `typeWithinPriority`, then, for Consumer
Identified only, `messageModifier`. -/
def mtiClassOf (gp : BitVec 2) (tw : BitVec 5) (mm : BitVec 2) : MtiClass :=
  if gp == 0 then (if tw == 0x08 then .initializationComplete else .undeciphered)
  else if gp == 1 then (if tw == 0x06 then consumerIdentifiedOf mm else .undeciphered)
  else .undeciphered

/-- The `Mti` detail of a format-1 frame with the given class (R186, R187). -/
def mtiDetail (f : CanFrame) (c : MtiClass) : Mti where
  mti := mti f.id
  grossPriority := grossPriority f.id
  typeWithinPriority := typeWithinPriority f.id
  simpleProtocol := simpleProtocol f.id
  addressPresent := addressPresent f.id
  eventPresent := eventPresent f.id
  messageModifier := messageModifier f.id
  sourceAddress := sourceAddress f.id
  nodeAddressValid := nodeAddressValid f
  nodeAddress := nodeAddress f
  mtiClass := c

/-- A control frame's report, with the fields every control frame gets (R173). -/
def controlResult (id : Ident) (c : ContentClass) : DecodedFrame :=
  .control
    { content := content id
      contentClass := c
      frameSeqNum := frameSeqNum id
      sourceNidAlias := sourceNidAlias id }

/-- An OpenLCB frame's report when no field below bit 24 is decoded (R184). -/
def plainResult (ff : BitVec 3) (c : FormatClass) : DecodedFrame :=
  .openLcb { frameFormat := ff, formatClass := c, detail := none }

/-- A format-1 frame's report with the given class (R186). -/
def mtiResult (f : CanFrame) (c : MtiClass) : DecodedFrame :=
  .openLcb { frameFormat := 1, formatClass := .globalAddressedMti, detail := some (mtiDetail f c) }

/-- `CLASSIFY(f)` (R170). -/
def classify (f : CanFrame) : DecodedFrame :=
  if f.id &&& 0x08000000 == 0 then controlResult f.id (contentClassOf (content f.id))
  else if frameFormat f.id != 1 then
    plainResult (frameFormat f.id) (formatClassOf (frameFormat f.id))
  else
    mtiResult f
      (mtiClassOf (grossPriority f.id) (typeWithinPriority f.id) (messageModifier f.id))

/-! ### The flat record (R93) -/

/-- The codes of `ContentClass` (R90). -/
def contentCode : ContentClass → BitVec 4
  | .ctrlReserved => 0
  | .rid => 1
  | .amd => 2
  | .ame => 3
  | .amr => 4
  | .eir0 => 5
  | .eir1 => 6
  | .eir2 => 7
  | .eir3 => 8
  | .cid => 9

/-- The codes of `MtiClass` (R92); 0 is `MTI_NOT_DECODED`, a code of the flat record only. -/
def mtiCode : MtiClass → BitVec 3
  | .undeciphered => 1
  | .initializationComplete => 2
  | .consumerIdentifiedValid => 3
  | .consumerIdentifiedInvalid => 4
  | .consumerIdentifiedUnknown => 5
  | .none => 6

/-- The flat record of a format-1 detail: `mtiClass` and the format-1 fields at their bits (R93). -/
def mtiFlat (m : Mti) : BitVec 126 :=
  place 126 m.mti 38 ||| place 126 m.grossPriority 50 ||| place 126 m.typeWithinPriority 52 |||
    place 126 m.simpleProtocol 57 ||| place 126 m.addressPresent 58 ||| place 126 m.eventPresent 59 |||
    place 126 m.messageModifier 60 ||| place 126 m.sourceAddress 62 |||
    place 126 m.nodeAddressValid 74 ||| place 126 m.nodeAddress 75 |||
    place 126 (mtiCode m.mtiClass) 123

/-- The detail's bits of the flat record, zeros when there is no detail (R93). -/
def detailFlat : Option Mti → BitVec 126
  | none => 0
  | some m => mtiFlat m

/-- The flat record of a DecodedFrame, 126 bits (R93); a field the tag does not define is zero. -/
def flatRecord : DecodedFrame → BitVec 126
  | .control c =>
    place 126 c.content 1 ||| place 126 (contentCode c.contentClass) 16 |||
      place 126 c.frameSeqNum 20 ||| place 126 c.sourceNidAlias 23
  | .openLcb o => place 126 (1 : BitVec 1) 0 ||| place 126 o.frameFormat 35 ||| detailFlat o.detail

/-- The `ContentClass` of a code of R90; that a code above 9 stands for none is log entry 23. -/
def contentOfCode (b : BitVec 4) : Option ContentClass :=
  [ContentClass.ctrlReserved, .rid, .amd, .ame, .amr, .eir0, .eir1, .eir2, .eir3, .cid][b.toNat]?

/-- The `MtiClass` of a code of R92; that 0 and 7 stand for none is log entry 23. -/
def mtiOfCode (b : BitVec 3) : Option MtiClass :=
  [none, some MtiClass.undeciphered, some .initializationComplete, some .consumerIdentifiedValid,
    some .consumerIdentifiedInvalid, some .consumerIdentifiedUnknown, some .none][b.toNat]?.join

/-- The format-1 fields of a flat record. -/
def mtiOfFlat (v : BitVec 126) (c : MtiClass) : Mti where
  mti := v.extractLsb' 38 12
  grossPriority := v.extractLsb' 50 2
  typeWithinPriority := v.extractLsb' 52 5
  simpleProtocol := v.extractLsb' 57 1
  addressPresent := v.extractLsb' 58 1
  eventPresent := v.extractLsb' 59 1
  messageModifier := v.extractLsb' 60 2
  sourceAddress := v.extractLsb' 62 12
  nodeAddressValid := v.extractLsb' 74 1
  nodeAddress := v.extractLsb' 75 48
  mtiClass := c

/-- The DecodedFrame a flat record stands for, if it stands for one (R93: "the tag is `family`;
`detail` is `Mti` exactly when `family == 1` and `frameFormat == 1`"). R93 gives no reading of a vector
that is no flat record: that a nonzero field the tag does not define is ignored, and that an unused
class code gives no DecodedFrame, is the model's choice (log entry 23, DESIGN CHOICE). -/
def ofFlatRecord (v : BitVec 126) : Option DecodedFrame :=
  if v.extractLsb' 0 1 == 0 then
    (contentOfCode (v.extractLsb' 16 4)).map fun c =>
      .control
        { content := v.extractLsb' 1 15
          contentClass := c
          frameSeqNum := v.extractLsb' 20 3
          sourceNidAlias := v.extractLsb' 23 12 }
  else if v.extractLsb' 35 3 == 1 then
    (mtiOfCode (v.extractLsb' 123 3)).map fun c =>
      .openLcb
        { frameFormat := 1, formatClass := .globalAddressedMti, detail := some (mtiOfFlat v c) }
  else some (plainResult (v.extractLsb' 35 3) (formatClassOf (v.extractLsb' 35 3)))

/-! ### The operation -/

/-- `CLASSIFY f` (R170): pure, invoked at any moment, also with no queue (R171). -/
def execClassify (f : CanFrame) (s : State) : Host.Outcome State Fault Refusal :=
  .next (s.returnClass (classify f))

end Sys2Proof.Machine
end

