-- ==== Sys2Proof/Machine/ControlRows.lean ====
section
/-! DEFINITION. The control rows of the classification table (R174 to R183), one definition a row. -/

namespace Sys2Proof.Machine

/-- The report of a frame whose content is one of the eight named constants (R174 to R181): the
constant itself, `frameSeqNum` 0 (every constant is below 0x1000), and `id[11:0]`. -/
def namedResult (f : CanFrame) (c : BitVec 15) (k : ContentClass) : DecodedFrame :=
  .control
    { content := c
      contentClass := k
      frameSeqNum := 0
      sourceNidAlias := sourceNidAlias f.id }

/-- Row `RID` (R174). -/
def execRid (f : CanFrame) (s : State) : Host.Outcome State Fault Refusal :=
  .next (s.returnClass (namedResult f 0x0700 .rid))

/-- Row `AMD` (R175). -/
def execAmd (f : CanFrame) (s : State) : Host.Outcome State Fault Refusal :=
  .next (s.returnClass (namedResult f 0x0701 .amd))

/-- Row `AME` (R176). -/
def execAme (f : CanFrame) (s : State) : Host.Outcome State Fault Refusal :=
  .next (s.returnClass (namedResult f 0x0702 .ame))

/-- Row `AMR` (R177). -/
def execAmr (f : CanFrame) (s : State) : Host.Outcome State Fault Refusal :=
  .next (s.returnClass (namedResult f 0x0703 .amr))

/-- Row `EIR0` (R178). -/
def execEir0 (f : CanFrame) (s : State) : Host.Outcome State Fault Refusal :=
  .next (s.returnClass (namedResult f 0x0710 .eir0))

/-- Row `EIR1` (R179). -/
def execEir1 (f : CanFrame) (s : State) : Host.Outcome State Fault Refusal :=
  .next (s.returnClass (namedResult f 0x0711 .eir1))

/-- Row `EIR2` (R180). -/
def execEir2 (f : CanFrame) (s : State) : Host.Outcome State Fault Refusal :=
  .next (s.returnClass (namedResult f 0x0712 .eir2))

/-- Row `EIR3` (R181). -/
def execEir3 (f : CanFrame) (s : State) : Host.Outcome State Fault Refusal :=
  .next (s.returnClass (namedResult f 0x0713 .eir3))

/-- Row `CTRL_RESERVED_1000` (R183): `content == 0x1000` is reserved, with `frameSeqNum = 1`. -/
def execCtrlReserved1000 (f : CanFrame) (s : State) : Host.Outcome State Fault Refusal :=
  .next (s.returnClass (controlResult f.id .ctrlReserved))

/-- Row `CID_HI` (R182). -/
def execCidHi (f : CanFrame) (s : State) : Host.Outcome State Fault Refusal :=
  .next (s.returnClass (controlResult f.id .cid))

/-- Row `CID_MID` (R182). -/
def execCidMid (f : CanFrame) (s : State) : Host.Outcome State Fault Refusal :=
  .next (s.returnClass (controlResult f.id .cid))

/-- Row `CID_LO` (R182). -/
def execCidLo (f : CanFrame) (s : State) : Host.Outcome State Fault Refusal :=
  .next (s.returnClass (controlResult f.id .cid))

/-- Row `CTRL_RESERVED` (R183): "This is a value, not a failure." -/
def execCtrlReserved (f : CanFrame) (s : State) : Host.Outcome State Fault Refusal :=
  .next (s.returnClass (controlResult f.id .ctrlReserved))

end Sys2Proof.Machine
end

