-- ==== Sys2Proof/Machine/MicroSteps.lean ====
section
/-! DEFINITION. The micro-steps of `PUSH` and `POP` (R132, R138), each one atomic step of one agent with
at most one access to shared state (D8), and the agents' next micro-step. -/

namespace Sys2Proof.Machine

/-! ### The producer -/

/-- `PUSH.LOAD` (R133): the frame is latched and `pullPosition` loaded. -/
def pushLoad (c : PushCaller) (f : CanFrame) (s : State) : State :=
  { s.inUse with producer := .loaded c f s.loadPull }

/-- `PUSH.DROP` (R134). -/
def pushDrop (c : PushCaller) (s : State) : State :=
  { s.dropFrame with producer := .idle }.returnPush c false

/-- `PUSH.WRITE` (R135). -/
def pushWrite (c : PushCaller) (f : CanFrame) (q : Nat) (s : State) : State :=
  { s.slotWrite s.pushSlot f with producer := .written c f q }

/-- `PUSH.PUBLISH` (R136). -/
def pushPublish (c : PushCaller) (f : CanFrame) (s : State) : State :=
  { s.publish f with producer := .idle }.returnPush c true

/-- The producer's next micro-step; the guard between drop and write is the full test on the snapshot
`P.q` (R132). An idle producer has none and changes nothing (log entry 10). -/
def producerStep (s : State) : State :=
  match s.producer with
  | .idle => s
  | .loaded c f q => if fullAt s.params s.pushPosition q then pushDrop c s else pushWrite c f q s
  | .written c f _ => pushPublish c f s

/-! ### The consumer -/

/-- `POP.LOAD` (R139): `pushPosition` is loaded and compared; an empty queue ends the pop here. -/
def popLoad (c : PopCaller) (s : State) : State :=
  if emptyAt s.loadPush s.pullPosition then s.inUse.returnEmpty c
  else { s.inUse with consumer := .loaded c s.loadPush }

/-- `POP.READ` (R140): the slot is read; a slot never written faults (R23). -/
def popRead (c : PopCaller) (p : Nat) (s : State) : Host.Outcome State Fault Refusal :=
  match s.slotRead s.pullSlot with
  | some g => .next { s with consumer := .read c p g }
  | none => .fault (.unwrittenSlot s.pullSlot)

/-- `POP.ADVANCE` (R141): `POP` returns the frame; `CONSUME_ITER` goes on with it (R232). -/
def popAdvance (c : PopCaller) (g : CanFrame) (s : State) : State :=
  match c with
  | .pop => { s.advance g with consumer := .idle }.returnFrame g
  | .consumeIter => { s.advance g with consumer := .reporting g }

/-- The consumer-local step of `CONSUME_ITER` for `CLASSIFY` and `Report` (R232). -/
def reportStep (g : CanFrame) (s : State) : State :=
  { s with consumer := .idle }.report (classify g)

/-- The consumer's next micro-step, where the schedule admits it (R11). Where it does, an idle consumer
has none and changes nothing. Where it does not, inside a push under `PREEMPT_ONLY`, the slot is refused,
an idle consumer's too, of which the spec says nothing (both log entry 10, DESIGN CHOICE). -/
def consumerStep (s : State) : Host.Outcome State Fault Refusal :=
  if s.consumerAdmitted then
    match s.consumer with
    | .idle => .next s
    | .loaded c p => popRead c p s
    | .read c _ g => .next (popAdvance c g s)
    | .reporting g => .next (reportStep g s)
  else .refused .consumerInsidePush

/-! ### An operation begun, its first micro-step taken -/

/-- A push begins with `PUSH.LOAD`. -/
def beginPush (c : PushCaller) (f : CanFrame) (s : State) : Host.Outcome State Fault Refusal :=
  match s.pushRefusal with
  | some r => .refused r
  | none => .next (pushLoad c f s)

/-- A pop begins with `POP.LOAD`. -/
def beginPop (c : PopCaller) (s : State) : Host.Outcome State Fault Refusal :=
  match s.popRefusal with
  | some r => .refused r
  | none => .next (popLoad c s)

/-- `NOTIFY` begun (R230): a push for `REASON_RX`; for another reason one step that changes nothing. -/
def beginNotify (r : Reason) (f : CanFrame) (s : State) : Host.Outcome State Fault Refusal :=
  match s.pushRefusal with
  | some e => .refused e
  | none => if r = Config.reasonRx then .next (pushLoad .notify f s) else .next s

end Sys2Proof.Machine
end

