-- ==== Sys2Proof/Machine/Queue.lean ====
section
/-! DEFINITION. The Frame Queue's operations run whole (40_frame_queue.md), each from the pseudocode of
its own rule, and the construction (70_reset_and_hazards.md). -/

namespace Sys2Proof.Machine

/-- A push taken as one atomic step (R131). -/
def pushWhole (c : PushCaller) (f : CanFrame) (s : State) : State :=
  if fullAt s.params s.pushPosition s.loadPull then s.inUse.dropFrame.returnPush c false
  else ((s.inUse.slotWrite s.pushSlot f).publish f).returnPush c true

/-- `PUSH f` (R131). -/
def execPush (f : CanFrame) (s : State) : Host.Outcome State Fault Refusal :=
  match s.pushRefusal with
  | some r => .refused r
  | none => .next (pushWhole .push f s)

/-- `POP` (R137). -/
def execPop (s : State) : Host.Outcome State Fault Refusal :=
  match s.popRefusal with
  | some r => .refused r
  | none =>
    if emptyAt s.loadPush s.pullPosition then .next (s.inUse.returnEmpty .pop)
    else
      match s.slotRead s.pullSlot with
      | some g => .next ((s.inUse.advance g).returnFrame g)
      | none => .fault (.unwrittenSlot s.pullSlot)

/-- `DROPCOUNT` (R142): any agent, at any time, also inside a push or a pop. -/
def execDropCount (s : State) : Host.Outcome State Fault Refusal :=
  if s.built then .next s.inUse.returnDropCount else .refused .notConstructed

/-- The state a construction leaves (R281); what the environment still has to do stays, and no second
construction follows (R283). -/
def State.construct (s : State) (p : Params) : State :=
  { State.constructed p s.sched with lifecycle := .running, inputs := s.inputs }

/-- `RESET` (R280): the construction, with `K`, `POSW`, `DROPW`; refused as R282 says, for a
`DROPW` outside the range of R10 (log entry 18), and once the queue is in use or a `RESET` has been taken
(R283; log entry 2). -/
def execReset (k posw dropw : Nat) (s : State) : Host.Outcome State Fault Refusal :=
  match s.lifecycle with
  | .running => .refused .secondReset
  | _ =>
    if posw < k then .refused .positionTooNarrow
    else if dropw = 0 then .refused .dropCounterTooNarrow
    else .next (s.construct { k := k, posw := posw, dropw := dropw })

/-- Is the capacity a power of two? Refused "when `C` is 0 or has more than one bit set" (R282). -/
def isPowerOfTwo (c : Nat) : Bool := c != 0 && c &&& (c - 1) == 0

/-- The construction from a raw capacity (R254, R282): `K` is its base-2 logarithm. -/
def constructFromCapacity (capacity posw dropw : Nat) (s : State) :
    Host.Outcome State Fault Refusal :=
  if isPowerOfTwo capacity then execReset capacity.log2 posw dropw s
  else .refused (.notPowerOfTwo capacity)

end Sys2Proof.Machine
end

