-- ==== Sys2Proof/Machine/DataFlow.lean ====
section
/-! DEFINITION. The two composed operations (42_dataflow.md), run whole. -/

namespace Sys2Proof.Machine

/-- `NOTIFY reason, f` (R230): `PUSH f` with its result discarded when the reason is `REASON_RX`;
nothing for any other reason. -/
def execNotify (r : Reason) (f : CanFrame) (s : State) : Host.Outcome State Fault Refusal :=
  match s.pushRefusal with
  | some e => .refused e
  | none => if r = Config.reasonRx then .next (pushWhole .notify f s) else .next s

/-- `CONSUME_ITER` (R232): at most one frame is taken, classified and handed to `Report`. -/
def execConsumeIter (s : State) : Host.Outcome State Fault Refusal :=
  match s.popRefusal with
  | some r => .refused r
  | none =>
    if emptyAt s.loadPush s.pullPosition then .next (s.inUse.returnEmpty .consumeIter)
    else
      match s.slotRead s.pullSlot with
      | some g => .next ((s.inUse.advance g).report (classify g))
      | none => .fault (.unwrittenSlot s.pullSlot)

end Sys2Proof.Machine
end

