-- ==== Sys2Proof/Machine/MtiRows.lean ====
section
/-! DEFINITION. The MTI rows of the classification table (R189 to R194), one definition a row: the
detail of R186 with the row's own class. -/

namespace Sys2Proof.Machine

/-- Row `MTI_INITIALIZATION_COMPLETE` (R189). -/
def execMtiInitializationComplete (f : CanFrame) (s : State) : Host.Outcome State Fault Refusal :=
  .next (s.returnClass (mtiResult f .initializationComplete))

/-- Row `MTI_CONSUMER_IDENTIFIED_VALID` (R190). -/
def execMtiConsumerIdentifiedValid (f : CanFrame) (s : State) : Host.Outcome State Fault Refusal :=
  .next (s.returnClass (mtiResult f .consumerIdentifiedValid))

/-- Row `MTI_CONSUMER_IDENTIFIED_INVALID` (R191). -/
def execMtiConsumerIdentifiedInvalid (f : CanFrame) (s : State) : Host.Outcome State Fault Refusal :=
  .next (s.returnClass (mtiResult f .consumerIdentifiedInvalid))

/-- Row `MTI_NONE` (R193). -/
def execMtiNone (f : CanFrame) (s : State) : Host.Outcome State Fault Refusal :=
  .next (s.returnClass (mtiResult f .none))

/-- Row `MTI_CONSUMER_IDENTIFIED_UNKNOWN` (R192). -/
def execMtiConsumerIdentifiedUnknown (f : CanFrame) (s : State) : Host.Outcome State Fault Refusal :=
  .next (s.returnClass (mtiResult f .consumerIdentifiedUnknown))

/-- Row `MTI_UNDECIPHERED` (R194). -/
def execMtiUndeciphered (f : CanFrame) (s : State) : Host.Outcome State Fault Refusal :=
  .next (s.returnClass (mtiResult f .undeciphered))

end Sys2Proof.Machine
end

