-- ==== Sys2Proof/Machine/OpenLcbRows.lean ====
section
/-! DEFINITION. The OpenLCB rows of the classification table (R185, R186, R195 to R200), one definition
a row. The operand is the frame; only format 1 reads anything of it below bit 24 (R184). -/

namespace Sys2Proof.Machine

/-- Row `OLCB_RESERVED0` (R185). -/
def execOlcbReserved0 (_f : CanFrame) (s : State) : Host.Outcome State Fault Refusal :=
  .next (s.returnClass (plainResult 0 .reserved))

/-- Row `OLCB_DATAGRAM_COMPLETE` (R195). -/
def execOlcbDatagramComplete (_f : CanFrame) (s : State) : Host.Outcome State Fault Refusal :=
  .next (s.returnClass (plainResult 2 .datagramComplete))

/-- Row `OLCB_DATAGRAM_FIRST` (R196). -/
def execOlcbDatagramFirst (_f : CanFrame) (s : State) : Host.Outcome State Fault Refusal :=
  .next (s.returnClass (plainResult 3 .datagramFirst))

/-- Row `OLCB_DATAGRAM_MIDDLE` (R197). -/
def execOlcbDatagramMiddle (_f : CanFrame) (s : State) : Host.Outcome State Fault Refusal :=
  .next (s.returnClass (plainResult 4 .datagramMiddle))

/-- Row `OLCB_DATAGRAM_FINAL` (R198). -/
def execOlcbDatagramFinal (_f : CanFrame) (s : State) : Host.Outcome State Fault Refusal :=
  .next (s.returnClass (plainResult 5 .datagramFinal))

/-- Row `OLCB_RESERVED6` (R199). -/
def execOlcbReserved6 (_f : CanFrame) (s : State) : Host.Outcome State Fault Refusal :=
  .next (s.returnClass (plainResult 6 .reserved))

/-- Row `OLCB_STREAM_DATA` (R200). -/
def execOlcbStreamData (_f : CanFrame) (s : State) : Host.Outcome State Fault Refusal :=
  .next (s.returnClass (plainResult 7 .streamData))

/-- Row `OLCB_GLOBAL_ADDRESSED_MTI` (R186): every field is extracted, then R187 and the lookup of R188
apply, which select the `ID-MTI` row. -/
def execOlcbGlobalAddressedMti (f : CanFrame) (s : State) : Host.Outcome State Fault Refusal :=
  .next (s.returnClass (mtiResult f
    (mtiClassOf (grossPriority f.id) (typeWithinPriority f.id) (messageModifier f.id))))

end Sys2Proof.Machine
end

