-- ==== Sys2Proof/Machine/Dispatch.lean ====
section
/-! DEFINITION. One arm per constructor of Instr: the operation run whole by its agent. -/

namespace Sys2Proof.Machine

def exec (i : Instr) (s : State) : Host.Outcome State Fault Refusal :=
  match i with
  | .reset k posw dropw => Sys2Proof.Machine.execReset k posw dropw s
  | .push f => Sys2Proof.Machine.execPush f s
  | .pop => Sys2Proof.Machine.execPop s
  | .dropCount => Sys2Proof.Machine.execDropCount s
  | .classify f => Sys2Proof.Machine.execClassify f s
  | .notify reason f => Sys2Proof.Machine.execNotify reason f s
  | .consumeIter => Sys2Proof.Machine.execConsumeIter s
  | .rid f => Sys2Proof.Machine.execRid f s
  | .amd f => Sys2Proof.Machine.execAmd f s
  | .ame f => Sys2Proof.Machine.execAme f s
  | .amr f => Sys2Proof.Machine.execAmr f s
  | .eir0 f => Sys2Proof.Machine.execEir0 f s
  | .eir1 f => Sys2Proof.Machine.execEir1 f s
  | .eir2 f => Sys2Proof.Machine.execEir2 f s
  | .eir3 f => Sys2Proof.Machine.execEir3 f s
  | .ctrlReserved1000 f => Sys2Proof.Machine.execCtrlReserved1000 f s
  | .cidHi f => Sys2Proof.Machine.execCidHi f s
  | .cidMid f => Sys2Proof.Machine.execCidMid f s
  | .cidLo f => Sys2Proof.Machine.execCidLo f s
  | .ctrlReserved f => Sys2Proof.Machine.execCtrlReserved f s
  | .olcbReserved0 f => Sys2Proof.Machine.execOlcbReserved0 f s
  | .olcbGlobalAddressedMti f => Sys2Proof.Machine.execOlcbGlobalAddressedMti f s
  | .olcbDatagramComplete f => Sys2Proof.Machine.execOlcbDatagramComplete f s
  | .olcbDatagramFirst f => Sys2Proof.Machine.execOlcbDatagramFirst f s
  | .olcbDatagramMiddle f => Sys2Proof.Machine.execOlcbDatagramMiddle f s
  | .olcbDatagramFinal f => Sys2Proof.Machine.execOlcbDatagramFinal f s
  | .olcbReserved6 f => Sys2Proof.Machine.execOlcbReserved6 f s
  | .olcbStreamData f => Sys2Proof.Machine.execOlcbStreamData f s
  | .mtiInitializationComplete f => Sys2Proof.Machine.execMtiInitializationComplete f s
  | .mtiConsumerIdentifiedValid f => Sys2Proof.Machine.execMtiConsumerIdentifiedValid f s
  | .mtiConsumerIdentifiedInvalid f => Sys2Proof.Machine.execMtiConsumerIdentifiedInvalid f s
  | .mtiNone f => Sys2Proof.Machine.execMtiNone f s
  | .mtiConsumerIdentifiedUnknown f => Sys2Proof.Machine.execMtiConsumerIdentifiedUnknown f s
  | .mtiUndeciphered f => Sys2Proof.Machine.execMtiUndeciphered f s

end Sys2Proof.Machine
end

