-- ==== Sys2Proof/Machine/Start.lean ====
section
/-! DEFINITION. An operation started rather than run whole: its first micro-step. The four operations
that have more than one micro-step begin; every other one is a single step and is run. -/

namespace Sys2Proof.Machine

/-- The first micro-step of an operation (R132, R138, R230, R232); the whole of it when it has only
one (R142, R170, R280). -/
def startOp (i : Instr) (s : State) : Host.Outcome State Fault Refusal :=
  match i with
  | .reset k posw dropw => exec (.reset k posw dropw) s
  | .push f => beginPush .push f s
  | .pop => beginPop .pop s
  | .dropCount => exec (.dropCount) s
  | .classify f => exec (.classify f) s
  | .notify reason f => beginNotify reason f s
  | .consumeIter => beginPop .consumeIter s
  | .rid f => exec (.rid f) s
  | .amd f => exec (.amd f) s
  | .ame f => exec (.ame f) s
  | .amr f => exec (.amr f) s
  | .eir0 f => exec (.eir0 f) s
  | .eir1 f => exec (.eir1 f) s
  | .eir2 f => exec (.eir2 f) s
  | .eir3 f => exec (.eir3 f) s
  | .ctrlReserved1000 f => exec (.ctrlReserved1000 f) s
  | .cidHi f => exec (.cidHi f) s
  | .cidMid f => exec (.cidMid f) s
  | .cidLo f => exec (.cidLo f) s
  | .ctrlReserved f => exec (.ctrlReserved f) s
  | .olcbReserved0 f => exec (.olcbReserved0 f) s
  | .olcbGlobalAddressedMti f => exec (.olcbGlobalAddressedMti f) s
  | .olcbDatagramComplete f => exec (.olcbDatagramComplete f) s
  | .olcbDatagramFirst f => exec (.olcbDatagramFirst f) s
  | .olcbDatagramMiddle f => exec (.olcbDatagramMiddle f) s
  | .olcbDatagramFinal f => exec (.olcbDatagramFinal f) s
  | .olcbReserved6 f => exec (.olcbReserved6 f) s
  | .olcbStreamData f => exec (.olcbStreamData f) s
  | .mtiInitializationComplete f => exec (.mtiInitializationComplete f) s
  | .mtiConsumerIdentifiedValid f => exec (.mtiConsumerIdentifiedValid f) s
  | .mtiConsumerIdentifiedInvalid f => exec (.mtiConsumerIdentifiedInvalid f) s
  | .mtiNone f => exec (.mtiNone f) s
  | .mtiConsumerIdentifiedUnknown f => exec (.mtiConsumerIdentifiedUnknown f) s
  | .mtiUndeciphered f => exec (.mtiUndeciphered f) s

end Sys2Proof.Machine
end

