-- ==== Sys2Proof/Machine/Step.lean ====
section
/-! DEFINITION. One step: the next move of the environment. The block has no program counter and
fetches no instructions (R27): "it performs an operation when an agent of the environment invokes
one", so a step takes the first of the pending moves, and with none pending nothing happens (R237). -/

namespace Sys2Proof.Machine

/-- One step of the machine. -/
def step (s : State) : Host.Outcome State Fault Refusal :=
  match s.inputs with
  | [] => .next s
  | .run sp w :: rest =>
    match decode sp w with
    | .ok i => exec i { s with inputs := rest }
    | .error e => .refused (.undecodable e)
  | .start sp w :: rest =>
    match decode sp w with
    | .ok i => startOp i { s with inputs := rest }
    | .error e => .refused (.undecodable e)
  | .producer :: rest => .next (producerStep { s with inputs := rest })
  | .consumer :: rest => consumerStep { s with inputs := rest }
  | .construct c posw dropw :: rest => constructFromCapacity c posw dropw { s with inputs := rest }

/-- `s` with the operation of a table row's word as its next move, run whole (log entry 7). -/
def State.withFetchWord (s : State) (nbits w : Nat) : State :=
  { s with inputs := .run (tableSpace nbits w) (tableWord nbits w) :: s.inputs }

end Sys2Proof.Machine
end

