-- ==== Sys2Proof/Safety.lean ====
section
/-! DEFINITION. What a claim about the machine is stated in: the ghost counters (R35), the invariants of
R144 and of R145 and R152, the relation between two machines that differ in `POSW` only (R146), and
runs of whole operations. -/

namespace Sys2Proof.Machine

/-- `PUSHED`, the publish steps since reset (R35). -/
def State.pushed (s : State) : Nat := s.ghost.stored.length

/-- `POPPED`, the advance steps since reset (R35). -/
def State.popped (s : State) : Nat := s.ghost.taken.length

/-- The snapshot `P.q`, present while a push is in progress (R28). -/
def Producer.snapshot : Producer → Option Nat
  | .idle => none
  | .loaded _ _ q => some q
  | .written _ _ q => some q

/-- The frame in a slot not yet published: `P.f` in phase `WRITTEN` (R28). -/
def Producer.staged : Producer → Option CanFrame
  | .idle => none
  | .loaded _ _ _ => none
  | .written _ f _ => some f

/-- Is a pop past its load: phase `LOADED` or `READ` (R29)? -/
def Consumer.taking : Consumer → Bool
  | .idle => false
  | .loaded _ _ => true
  | .read _ _ _ => true
  | .reporting _ => false

/-- The frame read and not yet released: `C.g` in phase `READ` (R29). -/
def Consumer.latched : Consumer → Option CanFrame
  | .idle => none
  | .loaded _ _ => none
  | .read _ _ g => some g
  | .reporting _ => none

/-- The report `CONSUME_ITER` still owes after its pop (R232). -/
def Consumer.owed : Consumer → List DecodedFrame
  | .idle => []
  | .loaded _ _ => []
  | .read _ _ _ => []
  | .reporting g => [classify g]

/-- A quiescent state (R237): `P.phase == IDLE` and `C.phase == IDLE`. Between the advance of a
`CONSUME_ITER` and its report step R141 has set `C.phase` to `IDLE`, so the test holds there, though R237's
gloss "(no operation in progress)" does not: the model takes the test as it is written (log entry 24,
DESIGN CHOICE). -/
def State.quiescent (s : State) : Bool :=
  decide (s.producer.phase = .idle) && decide (s.consumer.phase = .idle)

/-- The capacity invariant (R144), with the counters' relation to the ghost counts (R35, R142) and the
widths a queue is constructed with (R282, R10). Sums stand on both sides, so that `CAP - 1` is never
computed. -/
structure State.CapacityInv (s : State) : Prop where
  legal : s.params.Legal
  /-- `pushPosition = PUSHED mod 2^POSW` (R35). -/
  push_eq : s.pushPosition = s.pushed % 2 ^ s.params.posw
  /-- `pullPosition = POPPED mod 2^POSW` (R35). -/
  pull_eq : s.pullPosition = s.popped % 2 ^ s.params.posw
  /-- `dropCount` is the number of drop steps, modulo `2^DROPW` (R142). -/
  drop_eq : s.dropCount = s.ghost.drops % 2 ^ s.params.dropw
  /-- I1, left half. -/
  popped_le : s.popped ≤ s.pushed
  /-- I1, right half: `PUSHED <= POPPED + CAP - 1`. -/
  room : s.pushed + 1 ≤ s.popped + s.params.cap
  /-- I2: a push in progress holds an earlier `pullPosition`, within the capacity. -/
  snapshot_eq : ∀ q, s.producer.snapshot = some q →
    ∃ b, q = b % 2 ^ s.params.posw ∧ b ≤ s.popped ∧ s.pushed + 1 ≤ b + s.params.cap
  /-- I3: in phase `WRITTEN`, `PUSHED <= POPPED + CAP - 2`. -/
  staged_room : s.producer.staged ≠ none → s.pushed + 2 ≤ s.popped + s.params.cap
  /-- I4: past its load, a pop has a frame to take. -/
  taking_lt : s.consumer.taking = true → s.popped + 1 ≤ s.pushed

/-- The slot safety and order invariant (R145, R152), on top of the capacity invariant. -/
structure State.FifoInv (s : State) : Prop extends State.CapacityInv s where
  /-- The slot array keeps its canonical form. -/
  slots_wf : Memory.wf s.slots
  /-- Every slot written is one of the `CAP` (R50). -/
  slots_lt : ∀ c ∈ s.slots, c.1 < s.params.cap
  /-- `frame(n)` lies in slot `n mod CAP` while it is published and not taken (R35, R152 (b)). -/
  held : ∀ n, s.popped ≤ n → n < s.pushed →
    s.slotRead (n % s.params.cap) = s.ghost.stored[n]?
  /-- A frame written and not yet published lies in slot `PUSHED mod CAP` (R135). -/
  staged_at : ∀ f, s.producer.staged = some f → s.slotRead (s.pushed % s.params.cap) = some f
  /-- A frame read and not yet released is `frame(POPPED)` (R140). -/
  latched_eq : ∀ g, s.consumer.latched = some g → s.ghost.stored[s.popped]? = some g
  /-- The frames taken are the frames stored, in their order (R145). -/
  fifo : s.ghost.taken <+: s.ghost.stored
  /-- What was and will be reported are frames taken, classified, in their order (R232, R233). -/
  reports : (s.reported ++ s.consumer.owed).Sublist (s.ghost.taken.map classify)

/-- Two producers in the same phase with the same frame, whose snapshots are one earlier `POPPED`
reduced to either width. -/
def Producer.Alike (w₁ w₂ popped pushed cap : Nat) : Producer → Producer → Prop
  | .idle, .idle => True
  | .loaded c f q, .loaded c' f' q' => c = c' ∧ f = f' ∧
    ∃ b, q = b % 2 ^ w₁ ∧ q' = b % 2 ^ w₂ ∧ b ≤ popped ∧ pushed + 1 ≤ b + cap
  | .written c f q, .written c' f' q' => c = c' ∧ f = f' ∧
    ∃ b, q = b % 2 ^ w₁ ∧ q' = b % 2 ^ w₂ ∧ b ≤ popped ∧ pushed + 1 ≤ b + cap
  | _, _ => False

/-- Two consumers in the same phase, holding the same frame; the snapshot `C.p` may differ. -/
def Consumer.Alike : Consumer → Consumer → Prop
  | .idle, .idle => True
  | .loaded c _, .loaded c' _ => c = c'
  | .read c _ g, .read c' _ g' => c = c' ∧ g = g'
  | .reporting g, .reporting g' => g = g'
  | _, _ => False

/-- Two machines that differ in the width of the position counters only (R146): everything an
operation can return, the slots and the ghost record are the same. -/
structure WidthAlike (s t : State) : Prop where
  left : s.CapacityInv
  right : t.CapacityInv
  k_eq : s.params.k = t.params.k
  dropw_eq : s.params.dropw = t.params.dropw
  sched_eq : s.sched = t.sched
  lifecycle_eq : s.lifecycle = t.lifecycle
  drop_eq : s.dropCount = t.dropCount
  slots_eq : s.slots = t.slots
  producer_alike : Producer.Alike s.params.posw t.params.posw s.popped s.pushed s.params.cap
    s.producer t.producer
  consumer_alike : Consumer.Alike s.consumer t.consumer
  inputs_eq : s.inputs = t.inputs
  reported_eq : s.reported = t.reported
  returns_eq : s.returns = t.returns
  ghost_eq : s.ghost = t.ghost

/-- Two outcomes that stop for the same reason, or go on to states that are alike. -/
def SameOutcome : Host.Outcome State Fault Refusal → Host.Outcome State Fault Refusal → Prop
  | .next s, .next t => WidthAlike s t
  | .fault a, .fault b => a = b
  | .refused a, .refused b => a = b
  | _, _ => False

/-- The operation `i` completes in `s`, hands back the DecodedFrame `d`, and changes nothing else
(R171). -/
def ReturnsClass (i : Instr) (s : State) (d : DecodedFrame) : Prop :=
  exec i s = .next { s with returns := { s.returns with classify := some d } }

/-- Operations run whole, one after the other, until the first that stops. -/
def execAll : List Instr → State → Host.Outcome State Fault Refusal
  | [], s => .next s
  | i :: rest, s =>
    match exec i s with
    | .next t => execAll rest t
    | .fault r => .fault r
    | .refused r => .refused r

/-- Steps of the machine, one after the other, until the first that stops. -/
def stepAll : Nat → State → Host.Outcome State Fault Refusal
  | 0, s => .next s
  | n + 1, s =>
    match step s with
    | .next t => stepAll n t
    | .fault r => .fault r
    | .refused r => .refused r

/-- Micro-steps of the producer, one after the other. -/
def producerSteps : Nat → State → State
  | 0, s => s
  | n + 1, s => producerSteps n (producerStep s)

/-- Micro-steps of the consumer, one after the other, until the first that stops. -/
def consumerSteps : Nat → State → Host.Outcome State Fault Refusal
  | 0, s => .next s
  | n + 1, s =>
    match consumerStep s with
    | .next t => consumerSteps n t
    | .fault r => .fault r
    | .refused r => .refused r

end Sys2Proof.Machine
end

