-- ==== Sys2Proof/WellFormed.lean ====
section
/-! DEFINITION. Which terms of Instr can be written down (Decode.lean), and, for a classification
row, which frames select it. Each row's condition is the "Selected when" of its own rule in
41_frame_decoder.md, not a copy of the decoder's table. -/

namespace Sys2Proof

/-- The value of `id[26:12]`, the field the control rules R174 to R183 compare. -/
def Ident.contentBits (id : Ident) : Nat := (id.extractLsb' 12 15).toNat

/-- The eight contents that R174 to R181 name. -/
def namedContents : List Nat := [0x0700, 0x0701, 0x0702, 0x0703, 0x0710, 0x0711, 0x0712, 0x0713]

/-- `id[27] == 0` and `content` is the constant `c` (R174 to R181). -/
def Ident.isControl (id : Ident) (c : Nat) : Bool := !id.getLsbD 27 && id.contentBits == c

/-- `id[27] == 1` and `frameFormat == ff` (R185, R186, R195 to R200). -/
def Ident.isFormat (id : Ident) (ff : Nat) : Bool :=
  id.getLsbD 27 && (id.extractLsb' 24 3).toNat == ff

/-- A format-1 identifier whose priority and type are the two given (R189 to R194). -/
def Ident.isMti (id : Ident) (gp tw : Nat) : Bool :=
  id.isFormat 1 && (id.extractLsb' 22 2).toNat == gp && (id.extractLsb' 17 5).toNat == tw

/-- Consumer Identified with the given modifier (R190 to R193). -/
def Ident.isConsumerIdentified (id : Ident) (mm : Nat) : Bool :=
  id.isMti 1 0x06 && (id.extractLsb' 12 2).toNat == mm

/-- Can this term be written down as the operation it names? `RESET`'s parameters have one byte each
(log entry 8), a reason other than `REASON_RX` has a nonzero byte, and a classification row carries a
frame that selects that row. -/
def Instr.wellFormed : Instr → Bool
  | .reset k posw dropw => k < 256 && posw < 256 && 1 ≤ dropw && dropw ≤ 256
  | .push _ => true
  | .pop => true
  | .dropCount => true
  | .classify _ => true
  | .notify .rx _ => true
  | .notify (.other c) _ => 1 ≤ c && c < 256
  | .consumeIter => true
  | .rid f => f.id.isControl 0x0700
  | .amd f => f.id.isControl 0x0701
  | .ame f => f.id.isControl 0x0702
  | .amr f => f.id.isControl 0x0703
  | .eir0 f => f.id.isControl 0x0710
  | .eir1 f => f.id.isControl 0x0711
  | .eir2 f => f.id.isControl 0x0712
  | .eir3 f => f.id.isControl 0x0713
  | .ctrlReserved1000 f => f.id.isControl 0x1000
  | .cidHi f => !f.id.getLsbD 27 && f.id.getLsbD 26
  | .cidMid f => !f.id.getLsbD 27 && !f.id.getLsbD 26 && f.id.getLsbD 25
  | .cidLo f =>
    !f.id.getLsbD 27 && 0x1000 < f.id.contentBits && f.id.contentBits < 0x2000
  | .ctrlReserved f =>
    !f.id.getLsbD 27 && f.id.contentBits < 0x1000 && !namedContents.contains f.id.contentBits
  | .olcbReserved0 f => f.id.isFormat 0
  | .olcbGlobalAddressedMti f => f.id.isFormat 1
  | .olcbDatagramComplete f => f.id.isFormat 2
  | .olcbDatagramFirst f => f.id.isFormat 3
  | .olcbDatagramMiddle f => f.id.isFormat 4
  | .olcbDatagramFinal f => f.id.isFormat 5
  | .olcbReserved6 f => f.id.isFormat 6
  | .olcbStreamData f => f.id.isFormat 7
  | .mtiInitializationComplete f => f.id.isMti 0 0x08
  | .mtiConsumerIdentifiedValid f => f.id.isConsumerIdentified 0
  | .mtiConsumerIdentifiedInvalid f => f.id.isConsumerIdentified 1
  | .mtiNone f => f.id.isConsumerIdentified 2
  | .mtiConsumerIdentifiedUnknown f => f.id.isConsumerIdentified 3
  | .mtiUndeciphered f => f.id.isFormat 1 && !f.id.isMti 0 0x08 && !f.id.isMti 1 0x06

end Sys2Proof
end

