-- ==== Sys2Proof/Certificates/Slice0/Obligations.lean ====
section
/-! DEFINITION. The statements put to the provers; OBLIGATIONS.json says of each which rule it
formalises. -/

open Sys2Proof Sys2Proof.Machine

/-! ### The step and the encodings -/

/-- A step takes the first pending move. An operation run whole is `exec` of what its word decodes to,
one started is its first micro-step, and the whole of it when it has no other; a slot of the schedule is
the agent's next micro-step, a construction is that of its capacity; the move is used up and nothing is
added around it. The moves are the model's choice (log entries 7, 17 and 18), and so is that a word that is
no operation is refused and that with no move pending the state stays (log entry 15). -/
def Obligations.StepRunsTheDecodedOperation : Prop :=
  ∀ (s : State) (rest : List Input),
    (∀ sp w i, s.inputs = .run sp w :: rest → decode sp w = .ok i →
      step s = exec i { s with inputs := rest }) ∧
    (∀ sp w i, s.inputs = .start sp w :: rest → decode sp w = .ok i →
      step s = startOp i { s with inputs := rest }) ∧
    (∀ sp w e, (s.inputs = .run sp w :: rest ∨ s.inputs = .start sp w :: rest) →
      decode sp w = .error e → step s = .refused (.undecodable e)) ∧
    (s.inputs = .producer :: rest → step s = .next (producerStep { s with inputs := rest })) ∧
    (s.inputs = .consumer :: rest → step s = consumerStep { s with inputs := rest }) ∧
    (∀ c posw dropw, s.inputs = .construct c posw dropw :: rest →
      step s = constructFromCapacity c posw dropw { s with inputs := rest }) ∧
    (s.inputs = [] → step s = .next s) ∧
    ∀ i : Instr, (∀ f, i ≠ .push f) → i ≠ .pop → (∀ r f, i ≠ .notify r f) → i ≠ .consumeIter →
      startOp i s = exec i s

/-- A table row's word, placed as the next move, is run by the very next step. -/
def Obligations.FetchWordRunsItsRow : Prop :=
  ∀ (s : State) (nbits w : Nat) (i : Instr), decodeTableWord nbits w = some i →
    step (s.withFetchWord nbits w) = exec i s

/-- Words written out from the spec decode to what they stand for: each selector of R99, and one
identifier of R174, R182, R183, R185, R195, R189 and R194. Selector 7 stands for nothing. The spec does
not say it all: where operands stand in a word and that they are zeros here is log entry 8, that the
reason byte 0 is `REASON_RX` is log entry 6, and that the two format-1 words are read as their `ID-MTI`
rows, not as `OLCB_GLOBAL_ADDRESSED_MTI`, is log entry 9. -/
def Obligations.WordsDecodeToWhatTheyStandFor : Prop :=
  let zeros : Payload := ⟨0, 0, 0, 0, 0, 0, 0, 0⟩
  decodeTableWord 8 0 = some (.reset 0 0 1) ∧
  decodeTableWord 8 1 = some (.push ⟨0, 0, zeros⟩) ∧
  decodeTableWord 8 2 = some .pop ∧
  decodeTableWord 8 3 = some .dropCount ∧
  decodeTableWord 8 4 = some (.classify ⟨0, 0, zeros⟩) ∧
  decodeTableWord 8 5 = some (.notify .rx ⟨0, 0, zeros⟩) ∧
  decodeTableWord 8 6 = some .consumeIter ∧
  decodeTableWord 8 7 = none ∧
  decodeTableWord 32 0x10700ABC = some (.rid ⟨0x10700ABC, 0, zeros⟩) ∧
  decodeTableWord 32 0x01001000 = some (.cidLo ⟨0x01001000, 0, zeros⟩) ∧
  decodeTableWord 32 0x01000000 = some (.ctrlReserved1000 ⟨0x01000000, 0, zeros⟩) ∧
  decodeTableWord 32 0x08000802 = some (.olcbReserved0 ⟨0x08000802, 0, zeros⟩) ∧
  decodeTableWord 32 0x1A123456 = some (.olcbDatagramComplete ⟨0x1A123456, 0, zeros⟩) ∧
  decodeTableWord 32 0x19100ABC = some (.mtiInitializationComplete ⟨0x19100ABC, 0, zeros⟩) ∧
  decodeTableWord 32 0x09000000 = some (.mtiUndeciphered ⟨0x09000000, 0, zeros⟩)

/-- What is written down is read back: every well-formed operation, with every operand. -/
def Obligations.EncodeThenDecode : Prop :=
  ∀ i : Instr, i.wellFormed = true → decode (encode i).1 (encode i).2 = .ok i

/-- What is read is well formed and is written back as the very same word: no word has two readings
and none is read as an operation whose rule does not select it. -/
def Obligations.DecodeThenEncode : Prop :=
  ∀ (sp : Space) (w : Word) (i : Instr), decode sp w = .ok i →
    i.wellFormed = true ∧ encode i = (sp, w)

/-- The packed CanFrame's layout (R80); the order of its fields is the spec's decision D10. -/
def Obligations.PackedFrameLayout : Prop :=
  ∀ f : CanFrame,
    f.pack.extractLsb' 0 32 = f.id ∧ f.pack.extractLsb' 32 4 = f.dlc ∧
    f.pack.extractLsb' 36 8 = f.payload.b0 ∧ f.pack.extractLsb' 44 8 = f.payload.b1 ∧
    f.pack.extractLsb' 52 8 = f.payload.b2 ∧ f.pack.extractLsb' 60 8 = f.payload.b3 ∧
    f.pack.extractLsb' 68 8 = f.payload.b4 ∧ f.pack.extractLsb' 76 8 = f.payload.b5 ∧
    f.pack.extractLsb' 84 8 = f.payload.b6 ∧ f.pack.extractLsb' 92 8 = f.payload.b7

/-- "rows of equal priority are disjoint", and the rows of a format stand in increasing priority
(R98). -/
def Obligations.RowsOfEqualPriorityAreDisjoint : Prop :=
  ∀ rows ∈ [ctrlRows, olcbRows, mtiRows],
    rows.Pairwise (fun a b => a.priority ≤ b.priority) ∧
    ∀ id : Ident, rows.Pairwise (fun a b =>
      a.priority = b.priority → ¬(a.applies id = true ∧ b.applies id = true))

/-- "No identifier is illegal" (R97): every frame has a first row, and a second one exactly when the
first is that of format 1 (R98). -/
def Obligations.EveryFrameSelectsARow : Prop :=
  ∀ f : CanFrame, (∃ i, decodeFrame f = .ok i) ∧
    ((∃ j, decodeMti f = .ok j) ↔ decodeFrame f = .ok (.olcbGlobalAddressedMti f))

/-! ### The decoder -/

/-- The table and `classify` agree on every frame: whichever row the table selects, running the row
does what `CLASSIFY` does (R98 against R170). That a row is run as an operation of its own is log entry
19, and that its result is kept where `CLASSIFY`'s is, log entry 4. -/
def Obligations.TableRowsAgreeWithClassify : Prop :=
  ∀ (f : CanFrame) (i : Instr) (s : State),
    (decodeFrame f = .ok i ∨ decodeMti f = .ok i) → exec i s = exec (.classify f) s

/-- `CLASSIFY` completes in every state and returns, of a control frame, the three fields and the class
of its content; of a format other than 1, the format; of format 1, the detail. Nothing else changes. -/
def Obligations.ClassifyReturnsTheDecodedFrame : Prop :=
  ∀ (f : CanFrame) (s : State),
    (f.id.getLsbD 27 = false →
      ReturnsClass (.classify f) s (.control
        { content := f.id.extractLsb' 12 15
          contentClass := contentClassOf (f.id.extractLsb' 12 15)
          frameSeqNum := f.id.extractLsb' 24 3
          sourceNidAlias := f.id.extractLsb' 0 12 })) ∧
    (f.id.getLsbD 27 = true → f.id.extractLsb' 24 3 ≠ 1 →
      ReturnsClass (.classify f) s (.openLcb
        { frameFormat := f.id.extractLsb' 24 3
          formatClass := formatClassOf (f.id.extractLsb' 24 3)
          detail := none })) ∧
    (f.id.getLsbD 27 = true → f.id.extractLsb' 24 3 = 1 →
      ReturnsClass (.classify f) s (.openLcb
        { frameFormat := 1
          formatClass := .globalAddressedMti
          detail := some
            { mti := f.id.extractLsb' 12 12
              grossPriority := f.id.extractLsb' 22 2
              typeWithinPriority := f.id.extractLsb' 17 5
              simpleProtocol := f.id.extractLsb' 16 1
              addressPresent := f.id.extractLsb' 15 1
              eventPresent := f.id.extractLsb' 14 1
              messageModifier := f.id.extractLsb' 12 2
              sourceAddress := f.id.extractLsb' 0 12
              nodeAddressValid := nodeAddressValid f
              nodeAddress := nodeAddress f
              mtiClass := mtiClassOf (f.id.extractLsb' 22 2) (f.id.extractLsb' 17 5)
                (f.id.extractLsb' 12 2) } }))

/-- Every field's mask and shift give the slice R87 writes beside them. -/
def Obligations.FieldsAreTheirSlices : Prop :=
  ∀ id : Ident,
    family id = id.extractLsb' 27 1 ∧ frameFormat id = id.extractLsb' 24 3 ∧
    grossPriority id = id.extractLsb' 22 2 ∧ typeWithinPriority id = id.extractLsb' 17 5 ∧
    simpleProtocol id = id.extractLsb' 16 1 ∧ addressPresent id = id.extractLsb' 15 1 ∧
    eventPresent id = id.extractLsb' 14 1 ∧ messageModifier id = id.extractLsb' 12 2 ∧
    sourceAddress id = id.extractLsb' 0 12 ∧ mti id = id.extractLsb' 12 12 ∧
    content id = id.extractLsb' 12 15 ∧ frameSeqNum id = id.extractLsb' 24 3 ∧
    sourceNidAlias id = id.extractLsb' 0 12

/-- `ContentClass` by `content` (R90, R94), with its codes, which are the spec's decision D13. -/
def Obligations.ContentClassTable : Prop :=
  ∀ c : BitVec 15,
    (contentClassOf c = .rid ↔ c = 0x0700) ∧ (contentClassOf c = .amd ↔ c = 0x0701) ∧
    (contentClassOf c = .ame ↔ c = 0x0702) ∧ (contentClassOf c = .amr ↔ c = 0x0703) ∧
    (contentClassOf c = .eir0 ↔ c = 0x0710) ∧ (contentClassOf c = .eir1 ↔ c = 0x0711) ∧
    (contentClassOf c = .eir2 ↔ c = 0x0712) ∧ (contentClassOf c = .eir3 ↔ c = 0x0713) ∧
    (contentClassOf c = .cid ↔ 0x1000 < c.toNat) ∧
    (contentClassOf c = .ctrlReserved ↔
      c.toNat ≤ 0x06FF ∨ (0x0704 ≤ c.toNat ∧ c.toNat ≤ 0x070F) ∨
        (0x0714 ≤ c.toNat ∧ c.toNat ≤ 0x1000)) ∧
    [ContentClass.ctrlReserved, .rid, .amd, .ame, .amr, .eir0, .eir1, .eir2, .eir3, .cid].map
      contentCode = [0, 1, 2, 3, 4, 5, 6, 7, 8, 9]

/-- `MtiClass` by `grossPriority`, `typeWithinPriority` and `messageModifier` (R92, R96); the first clause
is the default. The codes are the spec's decision D13, the class of modifier 2 its decision D15. -/
def Obligations.MtiClassTable : Prop :=
  ∀ (gp : BitVec 2) (tw : BitVec 5) (mm : BitVec 2),
    (mtiClassOf gp tw mm = .undeciphered ↔
      ¬(gp = 0 ∧ tw = 0x08) ∧ ¬(gp = 1 ∧ tw = 0x06)) ∧
    (mtiClassOf gp tw mm = .initializationComplete ↔ gp = 0 ∧ tw = 0x08) ∧
    (mtiClassOf gp tw mm = .consumerIdentifiedValid ↔ gp = 1 ∧ tw = 0x06 ∧ mm = 0) ∧
    (mtiClassOf gp tw mm = .consumerIdentifiedInvalid ↔ gp = 1 ∧ tw = 0x06 ∧ mm = 1) ∧
    (mtiClassOf gp tw mm = .consumerIdentifiedUnknown ↔ gp = 1 ∧ tw = 0x06 ∧ mm = 3) ∧
    (mtiClassOf gp tw mm = .none ↔ gp = 1 ∧ tw = 0x06 ∧ mm = 2) ∧
    [MtiClass.undeciphered, .initializationComplete, .consumerIdentifiedValid,
      .consumerIdentifiedInvalid, .consumerIdentifiedUnknown, .none].map mtiCode =
        [1, 2, 3, 4, 5, 6]

/-- The node identifier (R88): for every format-1 frame, whatever its class, and for no other frame;
six payload bytes, byte 0 the most significant, when `dlc == 6`, else flagged absent and 0 (which
frames have one, and the 0, are the spec's decision D16). -/
def Obligations.NodeIdentifierIsBigEndian : Prop :=
  ∀ f : CanFrame,
    (f.id &&& 0x0F000000 = 0x09000000 →
      ∃ m, classify f = .openLcb ⟨1, .globalAddressedMti, some m⟩ ∧
        (f.dlc = 6 → m.nodeAddressValid = 1 ∧
          m.nodeAddress = f.payload.b0 ++ f.payload.b1 ++ f.payload.b2 ++ f.payload.b3 ++
            f.payload.b4 ++ f.payload.b5) ∧
        (f.dlc ≠ 6 → m.nodeAddressValid = 0 ∧ m.nodeAddress = 0)) ∧
    (f.id &&& 0x0F000000 ≠ 0x09000000 →
      (∃ c, classify f = .control c) ∨ ∃ ff c, classify f = .openLcb ⟨ff, c, none⟩)

/-- The inputs that do not influence the result (R202, which the spec derives from R170). -/
def Obligations.DecoderIgnoresUnusedBits : Prop :=
  ∀ f g : CanFrame,
    (f.id.getLsbD 27 = false → f.id.extractLsb' 0 28 = g.id.extractLsb' 0 28 →
      classify f = classify g) ∧
    (f.id.getLsbD 27 = true → f.id.extractLsb' 24 3 ≠ 1 →
      f.id.extractLsb' 24 4 = g.id.extractLsb' 24 4 → classify f = classify g) ∧
    (f.id &&& 0x0F000000 = 0x09000000 → f.id.extractLsb' 0 28 = g.id.extractLsb' 0 28 →
      f.dlc ≠ 6 → g.dlc ≠ 6 → classify f = classify g) ∧
    (f.id &&& 0x0F000000 = 0x09000000 → f.id.extractLsb' 0 28 = g.id.extractLsb' 0 28 →
      f.dlc = 6 → g.dlc = 6 → f.payload.b0 = g.payload.b0 → f.payload.b1 = g.payload.b1 →
      f.payload.b2 = g.payload.b2 → f.payload.b3 = g.payload.b3 → f.payload.b4 = g.payload.b4 →
      f.payload.b5 = g.payload.b5 → classify f = classify g)

/-- The eight named control rows (R174 to R181): a row's mask selects `id[27] == 0` and its `content`;
the table then gives the row, the row completes in every state with the result its rule writes out,
nothing else changes, and `classify` gives the same. That a row is an operation that completes in every
state is log entry 19, where its result is kept log entry 4. -/
def Obligations.NamedControlRows : Prop :=
  ∀ (f : CanFrame) (s : State) (make : CanFrame → Instr) (c : BitVec 15) (k : ContentClass)
    (pattern : Ident),
    (make, c, k, pattern) ∈
      [(Instr.rid, (0x0700 : BitVec 15), ContentClass.rid, (0x00700000 : Ident)),
        (.amd, 0x0701, .amd, 0x00701000), (.ame, 0x0702, .ame, 0x00702000),
        (.amr, 0x0703, .amr, 0x00703000), (.eir0, 0x0710, .eir0, 0x00710000),
        (.eir1, 0x0711, .eir1, 0x00711000), (.eir2, 0x0712, .eir2, 0x00712000),
        (.eir3, 0x0713, .eir3, 0x00713000)] →
    (f.id &&& 0x0FFFF000 = pattern ↔ f.id.getLsbD 27 = false ∧ f.id.extractLsb' 12 15 = c) ∧
    (f.id &&& 0x0FFFF000 = pattern →
      decodeFrame f = .ok (make f) ∧
      ReturnsClass (make f) s (.control ⟨c, k, 0, f.id.extractLsb' 0 12⟩) ∧
      classify f = .control ⟨c, k, 0, f.id.extractLsb' 0 12⟩)

/-- `CID` (R182), its three rows together: the table gives one of them exactly when `id[27] == 0` and
`content > 0x1000`, strictly, which is the rule's second wording too; `frameSeqNum` is 1 to 7. The rows as
operations, and where their results are kept, are log entries 19 and 4. -/
def Obligations.CheckIdRows : Prop :=
  ∀ (f : CanFrame) (s : State),
    let d : DecodedFrame :=
      .control ⟨f.id.extractLsb' 12 15, .cid, f.id.extractLsb' 24 3, f.id.extractLsb' 0 12⟩
    (0x1000 < (f.id.extractLsb' 12 15).toNat ↔
      f.id.extractLsb' 25 2 ≠ 0 ∨ (f.id.extractLsb' 24 3 = 1 ∧ f.id.extractLsb' 12 12 ≠ 0)) ∧
    ((∃ i, decodeFrame f = .ok i ∧ (i = .cidHi f ∨ i = .cidMid f ∨ i = .cidLo f)) ↔
      f.id.getLsbD 27 = false ∧ 0x1000 < (f.id.extractLsb' 12 15).toNat) ∧
    (f.id.getLsbD 27 = false → 0x1000 < (f.id.extractLsb' 12 15).toNat →
      classify f = d ∧ 1 ≤ (f.id.extractLsb' 24 3).toNat) ∧
    ((Instr.cidHi f).wellFormed = true → ReturnsClass (.cidHi f) s d) ∧
    ((Instr.cidMid f).wellFormed = true → ReturnsClass (.cidMid f) s d) ∧
    ((Instr.cidLo f).wellFormed = true → ReturnsClass (.cidLo f) s d)

/-- `CTRL_RESERVED` (R183), its two rows together: the table gives one of them exactly on the three
ranges of `content`; the fields are extracted all the same, and `frameSeqNum` is 1 for
`content == 0x1000`, else 0. The rows as operations, and where their results are kept, are log entries 19
and 4. -/
def Obligations.ReservedControlRows : Prop :=
  ∀ (f : CanFrame) (s : State),
    let c := (f.id.extractLsb' 12 15).toNat
    let d : DecodedFrame :=
      .control
        ⟨f.id.extractLsb' 12 15, .ctrlReserved, f.id.extractLsb' 24 3, f.id.extractLsb' 0 12⟩
    ((∃ i, decodeFrame f = .ok i ∧ (i = .ctrlReserved f ∨ i = .ctrlReserved1000 f)) ↔
      f.id.getLsbD 27 = false ∧
        (c ≤ 0x06FF ∨ (0x0704 ≤ c ∧ c ≤ 0x070F) ∨ (0x0714 ≤ c ∧ c ≤ 0x1000))) ∧
    (f.id.getLsbD 27 = false →
      (c ≤ 0x06FF ∨ (0x0704 ≤ c ∧ c ≤ 0x070F) ∨ (0x0714 ≤ c ∧ c ≤ 0x1000)) →
      classify f = d ∧ f.id.extractLsb' 24 3 = (if c = 0x1000 then 1 else 0)) ∧
    ((Instr.ctrlReserved f).wellFormed = true → ReturnsClass (.ctrlReserved f) s d) ∧
    ((Instr.ctrlReserved1000 f).wellFormed = true → ReturnsClass (.ctrlReserved1000 f) s d)

/-- The seven OpenLCB rows with no further decode (R185, R195 to R200): the table gives the row, which
completes in every state with its format and class and no detail, and `classify` gives the same. The rows
as operations, and where their results are kept, are log entries 19 and 4. -/
def Obligations.PlainOpenLcbRows : Prop :=
  ∀ (f : CanFrame) (s : State) (make : CanFrame → Instr) (ff : BitVec 3) (k : FormatClass)
    (pattern : Ident),
    (make, ff, k, pattern) ∈
      [(Instr.olcbReserved0, (0 : BitVec 3), FormatClass.reserved, (0x08000000 : Ident)),
        (.olcbDatagramComplete, 2, .datagramComplete, 0x0A000000),
        (.olcbDatagramFirst, 3, .datagramFirst, 0x0B000000),
        (.olcbDatagramMiddle, 4, .datagramMiddle, 0x0C000000),
        (.olcbDatagramFinal, 5, .datagramFinal, 0x0D000000),
        (.olcbReserved6, 6, .reserved, 0x0E000000),
        (.olcbStreamData, 7, .streamData, 0x0F000000)] →
    f.id &&& 0x0F000000 = pattern →
      decodeFrame f = .ok (make f) ∧ ReturnsClass (make f) s (.openLcb ⟨ff, k, none⟩) ∧
      classify f = .openLcb ⟨ff, k, none⟩

/-- `OLCB_GLOBAL_ADDRESSED_MTI` (R186): the table gives the row, which completes in every state with all
seven fields and `mti`, whatever `mtiClass` is; the class is that of the lookup. The node identifier rests
on the spec's decision D16; the row as an operation, and where its result is kept, are log entries 19 and
4. -/
def Obligations.GlobalAddressedMtiRow : Prop :=
  ∀ (f : CanFrame) (s : State), f.id &&& 0x0F000000 = 0x09000000 →
    decodeFrame f = .ok (.olcbGlobalAddressedMti f) ∧
    ReturnsClass (.olcbGlobalAddressedMti f) s (.openLcb ⟨1, .globalAddressedMti, some
      { mti := f.id.extractLsb' 12 12
        grossPriority := f.id.extractLsb' 22 2
        typeWithinPriority := f.id.extractLsb' 17 5
        simpleProtocol := f.id.extractLsb' 16 1
        addressPresent := f.id.extractLsb' 15 1
        eventPresent := f.id.extractLsb' 14 1
        messageModifier := f.id.extractLsb' 12 2
        sourceAddress := f.id.extractLsb' 0 12
        nodeAddressValid := nodeAddressValid f
        nodeAddress := nodeAddress f
        mtiClass := mtiClassOf (f.id.extractLsb' 22 2) (f.id.extractLsb' 17 5)
          (f.id.extractLsb' 12 2) }⟩)

/-- The six MTI rows (R189 to R194): the masks select the priority, type and modifier the rules name;
the table then gives the row, and it completes in every state with the detail of R186 and the row's
class. That modifier 2 is a class of its own, `MTI_NONE`, is the spec's decision D15 and the node
identifier its decision D16 (log entry 22); the rows as operations, and where their results are kept, are
log entries 19 and 4. -/
def Obligations.MtiRows : Prop :=
  ∀ (f : CanFrame) (s : State), f.id &&& 0x0F000000 = 0x09000000 →
    let gp := f.id.extractLsb' 22 2
    let tw := f.id.extractLsb' 17 5
    let mm := f.id.extractLsb' 12 2
    let d : MtiClass → DecodedFrame := fun k => .openLcb ⟨1, .globalAddressedMti, some
      { mti := f.id.extractLsb' 12 12
        grossPriority := gp
        typeWithinPriority := tw
        simpleProtocol := f.id.extractLsb' 16 1
        addressPresent := f.id.extractLsb' 15 1
        eventPresent := f.id.extractLsb' 14 1
        messageModifier := mm
        sourceAddress := f.id.extractLsb' 0 12
        nodeAddressValid := nodeAddressValid f
        nodeAddress := nodeAddress f
        mtiClass := k }⟩
    let row : (CanFrame → Instr) → MtiClass → Prop := fun make k =>
      decodeMti f = .ok (make f) ∧ ReturnsClass (make f) s (d k)
    (f.id &&& 0x0FFE0000 = 0x09100000 ↔ gp = 0 ∧ tw = 0x08) ∧
    (∀ m : BitVec 2, f.id &&& 0x0FFE3000 = 0x094C0000 ||| m.setWidth 32 <<< 12 ↔
      gp = 1 ∧ tw = 0x06 ∧ mm = m) ∧
    (gp = 0 → tw = 0x08 → row .mtiInitializationComplete .initializationComplete) ∧
    (gp = 1 → tw = 0x06 → mm = 0 → row .mtiConsumerIdentifiedValid .consumerIdentifiedValid) ∧
    (gp = 1 → tw = 0x06 → mm = 1 → row .mtiConsumerIdentifiedInvalid .consumerIdentifiedInvalid) ∧
    (gp = 1 → tw = 0x06 → mm = 2 → row .mtiNone .none) ∧
    (gp = 1 → tw = 0x06 → mm = 3 → row .mtiConsumerIdentifiedUnknown .consumerIdentifiedUnknown) ∧
    ((gp = 2 ∨ gp = 3 ∨ (gp = 0 ∧ tw ≠ 0x08) ∨ (gp = 1 ∧ tw ≠ 0x06)) →
      row .mtiUndeciphered .undeciphered)

/-- The flat record (R93): where each field lies, that a field the tag does not define is zero, and
that the DecodedFrame of any frame is read back from its flat record. The layout is the spec's decision
D13. -/
def Obligations.FlatRecordLayout : Prop :=
  (∀ c : ControlFrame,
    let v := flatRecord (.control c)
    v.extractLsb' 0 1 = 0 ∧ v.extractLsb' 1 15 = c.content ∧
    v.extractLsb' 16 4 = contentCode c.contentClass ∧ v.extractLsb' 20 3 = c.frameSeqNum ∧
    v.extractLsb' 23 12 = c.sourceNidAlias ∧ v.extractLsb' 35 91 = 0) ∧
  (∀ (ff : BitVec 3) (k : FormatClass),
    let v := flatRecord (.openLcb ⟨ff, k, none⟩)
    v.extractLsb' 0 1 = 1 ∧ v.extractLsb' 1 34 = 0 ∧ v.extractLsb' 35 3 = ff ∧
    v.extractLsb' 38 88 = 0) ∧
  (∀ (ff : BitVec 3) (k : FormatClass) (m : Mti),
    let v := flatRecord (.openLcb ⟨ff, k, some m⟩)
    v.extractLsb' 0 1 = 1 ∧ v.extractLsb' 1 34 = 0 ∧ v.extractLsb' 35 3 = ff ∧
    v.extractLsb' 38 12 = m.mti ∧ v.extractLsb' 50 2 = m.grossPriority ∧
    v.extractLsb' 52 5 = m.typeWithinPriority ∧ v.extractLsb' 57 1 = m.simpleProtocol ∧
    v.extractLsb' 58 1 = m.addressPresent ∧ v.extractLsb' 59 1 = m.eventPresent ∧
    v.extractLsb' 60 2 = m.messageModifier ∧ v.extractLsb' 62 12 = m.sourceAddress ∧
    v.extractLsb' 74 1 = m.nodeAddressValid ∧ v.extractLsb' 75 48 = m.nodeAddress ∧
    v.extractLsb' 123 3 = mtiCode m.mtiClass) ∧
  ∀ f : CanFrame, ofFlatRecord (flatRecord (classify f)) = some (classify f)

/-! ### The queue's operations, run whole -/

/-- `PUSH f` (R131), dropped or stored; what the two cases do not name stays. That `ok` is found in
`returns` and that the queue counts as in use are how the model writes R37 and R283 down (log entries 4
and 2). -/
def Obligations.PushStoresOrDrops : Prop :=
  ∀ (f : CanFrame) (s : State), s.built = true → s.producer = .idle →
    ((s.pushPosition + 1) &&& s.params.mask = s.pullPosition &&& s.params.mask →
      exec (.push f) s = .next
        { s with
          lifecycle := .running
          dropCount := (s.dropCount + 1) % 2 ^ s.params.dropw
          returns := { s.returns with push := some false }
          ghost := { s.ghost with drops := s.ghost.drops + 1 } }) ∧
    ((s.pushPosition + 1) &&& s.params.mask ≠ s.pullPosition &&& s.params.mask →
      exec (.push f) s = .next
        { s with
          lifecycle := .running
          slots := Memory.write s.slots (s.pushPosition &&& s.params.mask) f
          pushPosition := (s.pushPosition + 1) % 2 ^ s.params.posw
          returns := { s.returns with push := some true }
          ghost := { s.ghost with stored := s.ghost.stored ++ [f] } })

/-- `POP` (R137): `none` on an empty queue, else the slot's frame and one advance; what the two cases do
not name stays. `returns` and `lifecycle` as for `PUSH`. -/
def Obligations.PopTakesTheSlotAtPullPosition : Prop :=
  ∀ s : State, s.built = true → s.consumer = .idle → s.consumerAdmitted = true →
    (s.pushPosition = s.pullPosition →
      exec .pop s = .next
        { s with
          lifecycle := .running
          returns := { s.returns with pop := some none } }) ∧
    (∀ g, s.pushPosition ≠ s.pullPosition →
      s.slotRead (s.pullPosition &&& s.params.mask) = some g →
      exec .pop s = .next
        { s with
          lifecycle := .running
          pullPosition := (s.pullPosition + 1) % 2 ^ s.params.posw
          returns := { s.returns with pop := some (some g) }
          ghost := { s.ghost with taken := s.ghost.taken ++ [g] } })

/-- A read of a slot that holds no value is a fault (R23, the spec's decision D5), in `POP` and in
`CONSUME_ITER`. -/
def Obligations.UnwrittenSlotFaults : Prop :=
  ∀ s : State, s.built = true → s.consumer = .idle → s.consumerAdmitted = true →
    s.pushPosition ≠ s.pullPosition → s.slotRead (s.pullPosition &&& s.params.mask) = none →
    exec .pop s = .fault (.unwrittenSlot (s.pullPosition &&& s.params.mask)) ∧
    exec .consumeIter s = .fault (.unwrittenSlot (s.pullPosition &&& s.params.mask))

/-- `DROPCOUNT` (R142): whatever the agents are doing. The operation is the spec's decision D6. -/
def Obligations.DropCountIsReadAtAnyTime : Prop :=
  ∀ s : State, s.built = true →
    exec .dropCount s = .next
      { s with
        lifecycle := .running
        returns := { s.returns with dropCount := some s.dropCount } }

/-- `NOTIFY reason, f` (R230): for `REASON_RX` what `PUSH f` does, less the result; for every other
reason nothing (the spec's decision D17). -/
def Obligations.NotifyIsPushWithoutResult : Prop :=
  ∀ (f : CanFrame) (s : State), s.built = true → s.producer = .idle →
    (∃ t, exec (.push f) s = .next t ∧
      exec (.notify Config.reasonRx f) s = .next { t with returns := s.returns }) ∧
    ∀ r, r ≠ Config.reasonRx → exec (.notify r f) s = .next s

/-- `CONSUME_ITER` (R232): one pop; on `none` neither `CLASSIFY` nor `Report`; else both (the spec's
decision D29). -/
def Obligations.ConsumeIterReportsOneFrame : Prop :=
  ∀ s : State, s.built = true → s.consumer = .idle → s.consumerAdmitted = true →
    (s.pushPosition = s.pullPosition →
      exec .consumeIter s = .next
        { s with
          lifecycle := .running
          returns := { s.returns with consumeIter := some none } }) ∧
    (∀ g, s.pushPosition ≠ s.pullPosition →
      s.slotRead (s.pullPosition &&& s.params.mask) = some g →
      exec .consumeIter s = .next
        { s with
          lifecycle := .running
          pullPosition := (s.pullPosition + 1) % 2 ^ s.params.posw
          reported := s.reported ++ [classify g]
          returns := { s.returns with consumeIter := some (some (classify g)) }
          ghost := { s.ghost with taken := s.ghost.taken ++ [g] } })

/-- What a push leaves alone, in slots: all but the one at `pushPosition & MASK`, and that one too when
the frame is dropped; when it is stored, that slot holds it. -/
def Obligations.PushFrameOfSlots : Prop :=
  ∀ (f : CanFrame) (i : Instr) (s t : State), (i = .push f ∨ i = .notify .rx f) →
    exec i s = .next t →
    (∀ a, a ≠ s.pushPosition &&& s.params.mask → t.slotRead a = s.slotRead a) ∧
    (s.full = true → ∀ a, t.slotRead a = s.slotRead a) ∧
    (s.full = false → t.slotRead (s.pushPosition &&& s.params.mask) = some f) ∧
    t.pullPosition = s.pullPosition ∧ t.consumer = s.consumer ∧ t.producer = s.producer ∧
    t.params = s.params ∧ t.sched = s.sched ∧ t.inputs = s.inputs ∧ t.reported = s.reported

/-- Write ownership (R33): of all operations only a push or a construction writes `pushPosition`, the
slots or `dropCount`, only a pop or a construction writes `pullPosition`; and no micro-step of one
agent writes what the other owns. -/
def Obligations.WriteOwnership : Prop :=
  (∀ (i : Instr) (s t : State), exec i s = .next t →
    (∃ k posw dropw, i = .reset k posw dropw) ∨
    (((∃ f, i = .push f ∨ i = .notify Config.reasonRx f) ∨
        (t.pushPosition = s.pushPosition ∧ t.slots = s.slots ∧ t.dropCount = s.dropCount)) ∧
      (i = .pop ∨ i = .consumeIter ∨ t.pullPosition = s.pullPosition))) ∧
  (∀ s : State, (producerStep s).pullPosition = s.pullPosition ∧
    (producerStep s).consumer = s.consumer) ∧
  ∀ s t : State, consumerStep s = .next t → t.pushPosition = s.pushPosition ∧
    t.slots = s.slots ∧ t.dropCount = s.dropCount ∧ t.producer = s.producer

/-! ### Construction -/

/-- `RESET` (R280, R281): the state it leaves, whatever stood before; the first `POP` after it returns
`none`, and a second `RESET` is refused (R283). That it also runs on a queue the host has constructed
and nobody has used is the model's choice (log entry 2). -/
def Obligations.ResetConstructsAnEmptyQueue : Prop :=
  ∀ (k posw dropw : Nat) (s : State), s.lifecycle ≠ .running → k ≤ posw → 1 ≤ dropw →
    ∃ t, exec (.reset k posw dropw) s = .next t ∧
      t.params = ⟨k, posw, dropw⟩ ∧ t.pushPosition = 0 ∧ t.pullPosition = 0 ∧ t.dropCount = 0 ∧
      (∀ a, t.slotRead a = none) ∧ t.producer = .idle ∧ t.consumer = .idle ∧
      t.pushed = 0 ∧ t.popped = 0 ∧ t.empty = true ∧ t.occ = 0 ∧
      t.sched = s.sched ∧ t.inputs = s.inputs ∧ t.reported = [] ∧
      t.returns = ⟨none, none, none, none, none⟩ ∧ t.ghost.drops = 0 ∧
      (∃ u, exec .pop t = .next u ∧ u.returns.pop = some none) ∧
      ∀ k' posw' dropw', exec (.reset k' posw' dropw') t = .refused .secondReset

/-- What a construction refuses: `POSW < K` and a capacity that is no power of two (R282), and a second
construction (R283); a capacity `2^K` is `K` (decisions D23, D24). R10 gives the range `DROPW >= 1`; that
a `DROPW` of 0 is refused is the model's reading of it (log entry 18). That a fresh queue may still be
constructed is the model's choice (log entry 2). -/
def Obligations.ConstructionRefusals : Prop :=
  ∀ (posw dropw : Nat) (s : State),
    (∀ k, s.lifecycle ≠ .running → posw < k →
      exec (.reset k posw dropw) s = .refused .positionTooNarrow) ∧
    (∀ k, s.lifecycle ≠ .running → k ≤ posw →
      exec (.reset k posw 0) s = .refused .dropCounterTooNarrow) ∧
    (∀ k, s.lifecycle = .running → exec (.reset k posw dropw) s = .refused .secondReset) ∧
    (∀ c, (¬∃ k, c = 2 ^ k) →
      constructFromCapacity c posw dropw s = .refused (.notPowerOfTwo c)) ∧
    ∀ k, constructFromCapacity (2 ^ k) posw dropw s = exec (.reset k posw dropw) s

/-- The state after reset (R34): the values of its table (the spec's decisions D4 to D6, D8), and the
parameters' defaults (R9 to R11). -/
def Obligations.ResetValues : Prop :=
  State.reset.pushPosition = 0 ∧ State.reset.pullPosition = 0 ∧ State.reset.dropCount = 0 ∧
  (∀ a, State.reset.slotRead a = none) ∧ State.reset.producer = .idle ∧
  State.reset.consumer = .idle ∧ State.reset.pushed = 0 ∧ State.reset.popped = 0 ∧
  State.reset.params.posw = 32 ∧ State.reset.params.dropw = 32 ∧
  State.reset.sched = .fullInterleave

/-! ### The micro-steps -/

/-- `PUSH.LOAD`, `PUSH.DROP`, `PUSH.WRITE`, `PUSH.PUBLISH` (R133 to R136), for `PUSH` and for the
`NOTIFY` that expands to it, which returns no `ok`; a `NOTIFY` of another reason is one step that changes
nothing (R230, the spec's decision D17), not even whether the queue is in use (log entry 12). The
micro-steps are the spec's decision D8. -/
def Obligations.ProducerMicroSteps : Prop :=
  ∀ (f : CanFrame) (s : State),
    (s.built = true → s.producer = .idle →
      startOp (.push f) s = .next
        { s with lifecycle := .running, producer := .loaded .push f s.pullPosition } ∧
      startOp (.notify Config.reasonRx f) s = .next
        { s with lifecycle := .running, producer := .loaded .notify f s.pullPosition } ∧
      ∀ r, r ≠ Config.reasonRx → startOp (.notify r f) s = .next s) ∧
    (∀ c q, s.producer = .loaded c f q →
      (s.pushPosition + 1) &&& s.params.mask = q &&& s.params.mask →
      producerStep s =
        { s with
          dropCount := (s.dropCount + 1) % 2 ^ s.params.dropw
          producer := .idle
          returns := if c = .push then { s.returns with push := some false } else s.returns
          ghost := { s.ghost with drops := s.ghost.drops + 1 } }) ∧
    (∀ c q, s.producer = .loaded c f q →
      (s.pushPosition + 1) &&& s.params.mask ≠ q &&& s.params.mask →
      producerStep s =
        { s with
          slots := Memory.write s.slots (s.pushPosition &&& s.params.mask) f
          producer := .written c f q }) ∧
    (∀ c q, s.producer = .written c f q →
      producerStep s =
        { s with
          pushPosition := (s.pushPosition + 1) % 2 ^ s.params.posw
          producer := .idle
          returns := if c = .push then { s.returns with push := some true } else s.returns
          ghost := { s.ghost with stored := s.ghost.stored ++ [f] } })

/-- `POP.LOAD`, `POP.READ`, `POP.ADVANCE` (R139 to R141, the spec's decision D8) of a `POP`. -/
def Obligations.ConsumerMicroSteps : Prop :=
  ∀ s : State, s.consumerAdmitted = true →
    (s.built = true → s.consumer = .idle →
      (s.pushPosition = s.pullPosition →
        startOp .pop s = .next
          { s with lifecycle := .running, returns := { s.returns with pop := some none } }) ∧
      (s.pushPosition ≠ s.pullPosition →
        startOp .pop s = .next
          { s with lifecycle := .running, consumer := .loaded .pop s.pushPosition })) ∧
    (∀ p g, s.consumer = .loaded .pop p →
      s.slotRead (s.pullPosition &&& s.params.mask) = some g →
      consumerStep s = .next { s with consumer := .read .pop p g }) ∧
    (∀ p g, s.consumer = .read .pop p g →
      consumerStep s = .next
        { s with
          pullPosition := (s.pullPosition + 1) % 2 ^ s.params.posw
          consumer := .idle
          returns := { s.returns with pop := some (some g) }
          ghost := { s.ghost with taken := s.ghost.taken ++ [g] } })

/-- The micro-steps of `CONSUME_ITER` (R232): those of `POP`, then one consumer-local step for
`CLASSIFY` and `Report`, on the copy of the frame the pop returned. Where the model holds that copy is its
reading (log entry 16). -/
def Obligations.ConsumeIterMicroSteps : Prop :=
  ∀ s : State, s.consumerAdmitted = true →
    (s.built = true → s.consumer = .idle →
      (s.pushPosition = s.pullPosition →
        startOp .consumeIter s = .next
          { s with
            lifecycle := .running, returns := { s.returns with consumeIter := some none } }) ∧
      (s.pushPosition ≠ s.pullPosition →
        startOp .consumeIter s = .next
          { s with lifecycle := .running, consumer := .loaded .consumeIter s.pushPosition })) ∧
    (∀ p g, s.consumer = .loaded .consumeIter p →
      s.slotRead (s.pullPosition &&& s.params.mask) = some g →
      consumerStep s = .next { s with consumer := .read .consumeIter p g }) ∧
    (∀ p g, s.consumer = .read .consumeIter p g →
      consumerStep s = .next
        { s with
          pullPosition := (s.pullPosition + 1) % 2 ^ s.params.posw
          consumer := .reporting g
          ghost := { s.ghost with taken := s.ghost.taken ++ [g] } }) ∧
    (∀ g, s.consumer = .reporting g →
      consumerStep s = .next
        { s with
          consumer := .idle
          reported := s.reported ++ [classify g]
          returns := { s.returns with consumeIter := some (some (classify g)) } })

/-- A push run whole is its micro-steps with nothing between them (R131: "exact when no consumer step
falls inside it"). A dropped push has one micro-step after its load: that the second slot changes nothing
is the model's choice (log entry 10). -/
def Obligations.WholePushIsItsMicroSteps : Prop :=
  ∀ (f : CanFrame) (i : Instr) (s : State), (i = .push f ∨ i = .notify .rx f) →
    (∀ t, exec i s = .next t → ∃ u, startOp i s = .next u ∧ producerSteps 2 u = t) ∧
    (∀ r, exec i s = .refused r → startOp i s = .refused r)

/-- A pop, and a loop iteration around it, run whole are their micro-steps with nothing between them;
so is the fault of an unwritten slot. A pop has two micro-steps after its load, or none on an empty queue,
and an iteration three or none: that the slots left over change nothing is the model's choice (log entry
10). -/
def Obligations.WholePopIsItsMicroSteps : Prop :=
  ∀ (i : Instr) (s : State), (i = .pop ∨ i = .consumeIter) →
    (∀ u, startOp i s = .next u → consumerSteps 3 u = exec i s) ∧
    (∀ r, startOp i s = .refused r → exec i s = .refused r)

/-- Wait-freedom (R150): a push returns after at most two more micro-steps of the producer whatever
the state is; a pop after at most two more of the consumer, and an iteration after three, in every
state the invariant admits. An iteration's third is its report step (R232, log entry 16), and it counts
as in progress until then (log entry 24); that a slot left over, of an agent already idle, changes nothing
is the model's choice (log entry 10). -/
def Obligations.OperationsAreWaitFree : Prop :=
  (∀ s : State, (producerSteps 2 s).producer = .idle) ∧
  (∀ s : State, s.FifoInv → s.consumerAdmitted = true →
    ∃ t, consumerSteps 3 s = .next t ∧ t.consumer = .idle) ∧
  ∀ (s : State) (p : Nat), s.FifoInv → s.consumerAdmitted = true → s.consumer = .loaded .pop p →
    ∃ t g, consumerSteps 2 s = .next t ∧ t.consumer = .idle ∧ t.returns.pop = some (some g)

/-! ### The invariants -/

/-- The state after reset meets both invariants, and so does the state any construction leaves. -/
def Obligations.ResetMeetsTheInvariants : Prop :=
  State.reset.FifoInv ∧
  ∀ (k posw dropw : Nat) (s t : State), exec (.reset k posw dropw) s = .next t → t.FifoInv

/-- The capacity invariant, I1 to I4 (R144), is kept by every step, whoever takes it. -/
def Obligations.StepKeepsTheCapacityInvariant : Prop :=
  ∀ s t : State, s.CapacityInv → step s = .next t → t.CapacityInv

/-- The slot safety and order invariant (R145, R152) is kept by every step. -/
def Obligations.StepKeepsTheFifoInvariant : Prop :=
  ∀ s t : State, s.FifoInv → step s = .next t → t.FifoInv

/-- The slot array keeps its canonical form in every step, from any state that has it. -/
def Obligations.StepKeepsTheSlotArrayCanonical : Prop :=
  ∀ s t : State, Memory.wf s.slots → step s = .next t → Memory.wf t.slots

/-- Slot safety (R152): (a) a push about to write writes no slot that holds a frame not yet taken; (b) a
pop about to read reads a slot that holds `frame(POPPED)`, published; (c) the two are never at the same
slot; (d) no step reads a slot never written. -/
def Obligations.SlotSafety : Prop :=
  ∀ s : State, s.FifoInv →
    (∀ c f q, s.producer = .loaded c f q → fullAt s.params s.pushPosition q = false →
      ∀ n, s.popped ≤ n → n < s.pushed → s.pushPosition &&& s.params.mask ≠ n % s.params.cap) ∧
    (∀ c p, s.consumer = .loaded c p → s.popped < s.pushed ∧
      ∃ g, s.ghost.stored[s.popped]? = some g ∧
        s.slotRead (s.pullPosition &&& s.params.mask) = some g) ∧
    (∀ c f q c' p, s.producer = .loaded c f q → fullAt s.params s.pushPosition q = false →
      s.consumer = .loaded c' p →
      s.pushPosition &&& s.params.mask ≠ s.pullPosition &&& s.params.mask) ∧
    ∀ r, step s ≠ .fault r

/-- FIFO order and underflow (R145, R149): with a frame held, `POP` returns `frame(POPPED)`; with none
held it returns `none` and changes none of the state of R20. -/
def Obligations.PopReturnsTheOldestFrame : Prop :=
  ∀ s : State, s.FifoInv → s.built = true → s.consumer = .idle → s.consumerAdmitted = true →
    (s.popped < s.pushed → ∃ g t, s.ghost.stored[s.popped]? = some g ∧ exec .pop s = .next t ∧
      t.returns.pop = some (some g) ∧ t.popped = s.popped + 1) ∧
    (s.popped = s.pushed → ∃ t, exec .pop s = .next t ∧ t.returns.pop = some none ∧
      t.pushPosition = s.pushPosition ∧ t.pullPosition = s.pullPosition ∧ t.slots = s.slots ∧
      t.dropCount = s.dropCount)

/-- The derived predicates (R30, R31): occupancy is `PUSHED - POPPED`, at most `CAP - 1`; it is also the
masked difference; full and empty say what their names say. -/
def Obligations.OccupancyIsPushedMinusPopped : Prop :=
  ∀ s : State, s.CapacityInv →
    s.occ = s.pushed - s.popped ∧ s.occ + 1 ≤ s.params.cap ∧
    s.occ = (s.pushPosition + s.params.cap - (s.pullPosition &&& s.params.mask)) &&&
      s.params.mask ∧
    (s.full = true ↔ s.occ + 1 = s.params.cap) ∧ (s.empty = true ↔ s.occ = 0) ∧
    (s.empty = true ↔
      s.pushPosition &&& s.params.mask = s.pullPosition &&& s.params.mask)

/-- The slot index (R51): the masked position is the remainder by `CAP`, and the slots follow each
other across the wrap of the counter. -/
def Obligations.SlotIndexFollowsTheWrap : Prop :=
  ∀ (p : Params) (pos : Nat),
    pos &&& p.mask = pos % p.cap ∧
    (p.k ≤ p.posw →
      ((pos + 1) % 2 ^ p.posw) &&& p.mask = ((pos &&& p.mask) + 1) &&& p.mask ∧
      (2 ^ p.posw - 1) &&& p.mask = p.cap - 1 ∧
      ((2 ^ p.posw - 1 + 1) % 2 ^ p.posw) &&& p.mask = 0)

/-- Independence from `POSW` (R146): two machines of the same `K`, alike but for the width of their
position counters, take every move alike: they return the same, agree on the slots, and stay alike. -/
def Obligations.CounterWidthIsNotObservable : Prop :=
  ∀ s t : State, WidthAlike s t → SameOutcome (step s) (step t)

/-- `K = 0` (R147): every push is dropped and counted, `pushPosition` stays, every pop returns `none`. -/
def Obligations.OneSlotHoldsNoFrame : Prop :=
  ∀ (f : CanFrame) (s : State), s.CapacityInv → s.params.k = 0 → s.built = true →
    (s.producer = .idle → ∃ t, exec (.push f) s = .next t ∧ t.returns.push = some false ∧
      t.pushPosition = s.pushPosition ∧ t.slots = s.slots ∧
      t.dropCount = (s.dropCount + 1) % 2 ^ s.params.dropw) ∧
    (s.consumer = .idle → s.consumerAdmitted = true →
      ∃ t, exec .pop s = .next t ∧ t.returns.pop = some none)

/-- Overflow (R148), for any burst of pushes into a fresh queue with no pop in between: the first
`CAP - 1` frames are held, every other one is dropped and counted, and the pops after it return the
held ones in order, then `none`. With `CAP + 1` pushes two frames are dropped. -/
def Obligations.BurstKeepsTheFirstFrames : Prop :=
  ∀ (k posw dropw : Nat) (s₀ s : State) (fs : List CanFrame),
    exec (.reset k posw dropw) s₀ = .next s → 2 ^ k ≤ fs.length + 1 →
    ∃ t u, execAll (fs.map .push) s = .next t ∧ t.ghost.stored = fs.take (2 ^ k - 1) ∧
      t.occ = 2 ^ k - 1 ∧ t.dropCount = (fs.length - (2 ^ k - 1)) % 2 ^ dropw ∧
      execAll (List.replicate (2 ^ k - 1) .pop) t = .next u ∧
      u.ghost.taken = fs.take (2 ^ k - 1) ∧
      ∃ v, exec .pop u = .next v ∧ v.returns.pop = some none

/-- In a queue in use no step changes a slot other than the one at `pushPosition & MASK` (R153: exactly
one store, with one addressing mode), and no step changes the parameters. -/
def Obligations.StepWritesOnlyThePushSlot : Prop :=
  ∀ s t : State, s.lifecycle = .running → step s = .next t →
    (∀ a, a ≠ s.pushPosition &&& s.params.mask → t.slotRead a = s.slotRead a) ∧
    t.params = s.params ∧ t.sched = s.sched ∧ t.lifecycle = .running

/-! ### What is not admitted -/

/-- `PREEMPT_ONLY` (R11, decision D7): no consumer step inside a push; outside a push it admits what
`FULL_INTERLEAVE` admits. The refusal is the model's reading (log entry 20), that of an idle consumer's
slot the model's choice (log entry 10). -/
def Obligations.PreemptOnlyKeepsTheConsumerOut : Prop :=
  ∀ s : State, s.sched = .preemptOnly →
    (s.producer ≠ .idle → consumerStep s = .refused .consumerInsidePush ∧
      (s.built = true → s.consumer = .idle →
        exec .pop s = .refused .consumerInsidePush ∧
        exec .consumeIter s = .refused .consumerInsidePush ∧
        startOp .pop s = .refused .consumerInsidePush ∧
        startOp .consumeIter s = .refused .consumerInsidePush)) ∧
    (s.producer = .idle → s.consumerAdmitted = true)

/-- The discipline (R151, decision D22): a push inside a push and a pop inside a pop are refused, and so
is every queue operation before there is a queue (R284), run whole or started. That a `NOTIFY` of another reason is refused
alike (log entry 12), and so a pop begun between the advance and the report of an iteration (log
entry 24), are the model's choices. -/
def Obligations.UseOutsideTheDisciplineIsRefused : Prop :=
  ∀ (f : CanFrame) (r : Reason) (s : State),
    (s.built = true → s.producer ≠ .idle →
      exec (.push f) s = .refused .nestedPush ∧ exec (.notify r f) s = .refused .nestedPush ∧
      startOp (.push f) s = .refused .nestedPush ∧
      startOp (.notify r f) s = .refused .nestedPush) ∧
    (s.built = true → s.consumer ≠ .idle →
      exec .pop s = .refused .nestedPop ∧ exec .consumeIter s = .refused .nestedPop ∧
      startOp .pop s = .refused .nestedPop ∧ startOp .consumeIter s = .refused .nestedPop) ∧
    (s.lifecycle = .unbuilt →
      exec (.push f) s = .refused .notConstructed ∧
      exec (.notify r f) s = .refused .notConstructed ∧
      exec .pop s = .refused .notConstructed ∧ exec .consumeIter s = .refused .notConstructed ∧
      exec .dropCount s = .refused .notConstructed ∧
      startOp (.push f) s = .refused .notConstructed ∧
      startOp (.notify r f) s = .refused .notConstructed ∧
      startOp .pop s = .refused .notConstructed ∧
      startOp .consumeIter s = .refused .notConstructed ∧
      startOp .dropCount s = .refused .notConstructed)

/-- Stale snapshots (R258): the invariant admits a push that drops although the queue is empty at the
drop, and a pop that, on a queue with no frame published, returns `none` although a frame lies written in
the slot it would read; once that frame is published the next pop returns it. -/
def Obligations.StaleSnapshotsAreAdmitted : Prop :=
  (∃ s : State, s.FifoInv ∧ s.occ = 0 ∧ 0 < s.params.k ∧
    (producerStep s).dropCount ≠ s.dropCount) ∧
  ∃ (s t u : State) (g : CanFrame), s.FifoInv ∧ s.pushPosition = s.pullPosition ∧
    s.slotRead s.pullSlot = some g ∧ s.producer.staged = some g ∧ s.returns.pop = none ∧
    startOp .pop s = .next t ∧ t.returns.pop = some none ∧ t.consumer = .idle ∧
    exec .pop (producerStep t) = .next u ∧ u.returns.pop = some (some g)

/-! ### The end of a run -/

/-- Quiescence (R237): the test is that of the two phases, so it holds too between the advance and the
report of an iteration (log entry 24); a quiescent state may hold frames; and with the environment
invoking nothing more, two slots of each agent, after the first step each operation has had, lead to a
quiescent state, in every order under `FULL_INTERLEAVE`, and with the producer's first under either
schedule. Further slots leave the state quiescent. -/
def Obligations.QuiescenceIsReached : Prop :=
  (∀ s : State, s.quiescent = true ↔
    s.producer = .idle ∧ (s.consumer = .idle ∨ ∃ g, s.consumer = .reporting g)) ∧
  (∃ s : State, s.FifoInv ∧ s.quiescent = true ∧ 0 < s.occ) ∧
  (∀ s : State, s.FifoInv → s.sched = .fullInterleave →
    (∀ m ∈ s.inputs, m = .producer ∨ m = .consumer) →
    2 ≤ s.inputs.count .producer → 2 ≤ s.inputs.count .consumer →
    ∃ t, stepAll s.inputs.length s = .next t ∧ t.inputs = [] ∧ t.quiescent = true) ∧
  ∀ s : State, s.FifoInv → s.inputs = [.producer, .producer, .consumer, .consumer] →
    ∃ t, stepAll 4 s = .next t ∧ t.inputs = [] ∧ t.quiescent = true
end

