-- ==== Sys2Proof/Laws/Words.lean ====
section
/-! SUPPORT. The fields of packed words: a bit of a placed field, and the packed CanFrame unpacked. -/

namespace Sys2Proof

/-- The bits of a placed field. -/
theorem getLsbD_place {n m : Nat} (v : BitVec n) (lo i : Nat) :
    (place m v lo).getLsbD i = (decide (i < m) && decide (lo ≤ i) && v.getLsbD (i - lo)) := by
  simp only [place, BitVec.getLsbD_shiftLeft, BitVec.getLsbD_setWidth]
  grind

/-- Unpacking undoes packing (R80). -/
@[simp] theorem CanFrame.unpack_pack (f : CanFrame) : CanFrame.unpack f.pack = f := by
  obtain ⟨id, dlc, ⟨b0, b1, b2, b3, b4, b5, b6, b7⟩⟩ := f
  simp only [CanFrame.unpack, CanFrame.pack, CanFrame.mk.injEq, Payload.mk.injEq]
  refine ⟨?_, ?_, ?_, ?_, ?_, ?_, ?_, ?_, ?_, ?_⟩ <;>
  · apply BitVec.eq_of_getLsbD_eq
    intro i hi
    simp (disch := omega) only [BitVec.getLsbD_extractLsb', BitVec.getLsbD_or, getLsbD_place,
      BitVec.getLsbD_of_ge]
    grind

/-- Packing undoes unpacking: the ten fields cover all 100 bits (R80). -/
@[simp] theorem CanFrame.pack_unpack (v : BitVec 100) : (CanFrame.unpack v).pack = v := by
  apply BitVec.eq_of_getLsbD_eq
  intro i hi
  simp only [CanFrame.unpack, CanFrame.pack, BitVec.getLsbD_or, getLsbD_place,
    BitVec.getLsbD_extractLsb', hi, decide_true, Bool.true_and]
  grind

end Sys2Proof
end

