-- ==== Sys2Proof/Laws/Identifiers.lean ====
section
/-! SUPPORT. Every test on an identifier, a mask and a pattern (R98) or a slice (R87), as one fact about
the number the identifier is: quotients and remainders by powers of two, which `omega` decides. -/

namespace Sys2Proof

/-- A slice as a number. -/
theorem toNat_slice {w : Nat} (v : BitVec w) (lo n : Nat) :
    (v.extractLsb' lo n).toNat = v.toNat / 2 ^ lo % 2 ^ n := by
  simp [BitVec.extractLsb'_toNat, Nat.shiftRight_eq_div_pow]

/-- A bit as a number. -/
theorem getLsbD_eq_decide {w : Nat} (v : BitVec w) (i : Nat) :
    v.getLsbD i = decide (v.toNat / 2 ^ i % 2 = 1) := by
  rw [BitVec.getLsbD, Nat.testBit_eq_decide_div_mod_eq]

/-- A mask of `n` ones at `lo` against a field at `lo` compares the slice with the field. -/
theorem and_place_eq_iff {n : Nat} (id : Ident) (q : BitVec n) (lo : Nat) (h : lo + n ≤ 32) :
    id &&& place 32 (BitVec.allOnes n) lo = place 32 q lo ↔
      id.toNat / 2 ^ lo % 2 ^ n = q.toNat := by
  rw [← toNat_slice, BitVec.toNat_inj]
  constructor
  · intro e
    apply BitVec.eq_of_getLsbD_eq
    intro i hi
    have := congrArg (·.getLsbD (lo + i)) e
    simp only [BitVec.getLsbD_and, getLsbD_place, BitVec.getLsbD_allOnes] at this
    rw [BitVec.getLsbD_extractLsb']
    have h1 : lo + i - lo = i := by omega
    have h2 : lo + i < 32 := by omega
    simpa [h1, h2, hi] using this
  · rintro rfl
    apply BitVec.eq_of_getLsbD_eq
    intro i hi
    simp only [BitVec.getLsbD_and, getLsbD_place, BitVec.getLsbD_allOnes,
      BitVec.getLsbD_extractLsb', hi]
    by_cases hl : lo ≤ i
    · have : lo + (i - lo) = i := by omega
      simp [hl, this, Bool.and_comm]
    · simp [hl]

/-- The same for any pattern that lies within the mask. -/
theorem and_eq_iff (n lo : Nat) (id p : Ident) (h : lo + n ≤ 32)
    (hp : p &&& place 32 (BitVec.allOnes n) lo = p) :
    id &&& place 32 (BitVec.allOnes n) lo = p ↔
      id.toNat / 2 ^ lo % 2 ^ n = p.toNat / 2 ^ lo % 2 ^ n := by
  have hq : place 32 (p.extractLsb' lo n) lo = p := by
    rw [← (and_place_eq_iff p (p.extractLsb' lo n) lo h).2 (toNat_slice p lo n).symm, hp]
  have := and_place_eq_iff id (p.extractLsb' lo n) lo h
  rw [hq, toNat_slice] at this
  exact this

/-! ### The masks of the classification rows (R94 to R96) -/

/-- `id[27:12]`, the named control rows. -/
theorem and_content (id p : Ident) (hp : p &&& 0x0FFFF000 = p) :
    id &&& 0x0FFFF000 = p ↔ id.toNat / 2 ^ 12 % 2 ^ 16 = p.toNat / 2 ^ 12 % 2 ^ 16 :=
  and_eq_iff 16 12 id p (by decide) hp

/-- `id[27:26]`, the row `CID_HI`. -/
theorem and_cidHi (id p : Ident) (hp : p &&& 0x0C000000 = p) :
    id &&& 0x0C000000 = p ↔ id.toNat / 2 ^ 26 % 2 ^ 2 = p.toNat / 2 ^ 26 % 2 ^ 2 :=
  and_eq_iff 2 26 id p (by decide) hp

/-- `id[27:25]`, the row `CID_MID`. -/
theorem and_cidMid (id p : Ident) (hp : p &&& 0x0E000000 = p) :
    id &&& 0x0E000000 = p ↔ id.toNat / 2 ^ 25 % 2 ^ 3 = p.toNat / 2 ^ 25 % 2 ^ 3 :=
  and_eq_iff 3 25 id p (by decide) hp

/-- `id[27:24]`, the row `CID_LO` and the rows of `frameFormat`. -/
theorem and_format (id p : Ident) (hp : p &&& 0x0F000000 = p) :
    id &&& 0x0F000000 = p ↔ id.toNat / 2 ^ 24 % 2 ^ 4 = p.toNat / 2 ^ 24 % 2 ^ 4 :=
  and_eq_iff 4 24 id p (by decide) hp

/-- `id[27]`, the family. -/
theorem and_family (id p : Ident) (hp : p &&& 0x08000000 = p) :
    id &&& 0x08000000 = p ↔ id.toNat / 2 ^ 27 % 2 ^ 1 = p.toNat / 2 ^ 27 % 2 ^ 1 :=
  and_eq_iff 1 27 id p (by decide) hp

/-- `id[27:17]`, format, priority and type. -/
theorem and_type (id p : Ident) (hp : p &&& 0x0FFE0000 = p) :
    id &&& 0x0FFE0000 = p ↔ id.toNat / 2 ^ 17 % 2 ^ 11 = p.toNat / 2 ^ 17 % 2 ^ 11 :=
  and_eq_iff 11 17 id p (by decide) hp

/-- `id[13:12]`, the modifier. -/
theorem and_modifier (id p : Ident) (hp : p &&& 0x00003000 = p) :
    id &&& 0x00003000 = p ↔ id.toNat / 2 ^ 12 % 2 ^ 2 = p.toNat / 2 ^ 12 % 2 ^ 2 :=
  and_eq_iff 2 12 id p (by decide) hp

/-- `id[27:17]` and `id[13:12]`, the Consumer Identified rows. -/
theorem and_consumerIdentified (id p : Ident) (hp : p &&& 0x0FFE3000 = p) :
    id &&& 0x0FFE3000 = p ↔
      id.toNat / 2 ^ 17 % 2 ^ 11 = p.toNat / 2 ^ 17 % 2 ^ 11 ∧
        id.toNat / 2 ^ 12 % 2 ^ 2 = p.toNat / 2 ^ 12 % 2 ^ 2 := by
  have both : ∀ v : Ident, v &&& 0x0FFE3000 = (v &&& 0x0FFE0000) ||| (v &&& 0x00003000) := by
    intro v
    rw [← BitVec.and_or_distrib_left]
    rfl
  have ht := and_type id (p &&& 0x0FFE0000) (by rw [BitVec.and_assoc]; rfl)
  have hm := and_modifier id (p &&& 0x00003000) (by rw [BitVec.and_assoc]; rfl)
  rw [← (and_type p (p &&& 0x0FFE0000) (by rw [BitVec.and_assoc]; rfl)).1 rfl] at ht
  rw [← (and_modifier p (p &&& 0x00003000) (by rw [BitVec.and_assoc]; rfl)).1 rfl] at hm
  rw [← ht, ← hm]
  constructor
  · intro e
    have ht' := congrArg (· &&& (0x0FFE0000 : Ident)) e
    have hm' := congrArg (· &&& (0x00003000 : Ident)) e
    simp only [BitVec.and_assoc] at ht' hm'
    exact ⟨ht', hm'⟩
  · rintro ⟨e₁, e₂⟩
    rw [both, e₁, e₂, ← both, hp]

/-! ### The conditions of WellFormed.lean -/

/-- A set bit. -/
theorem getLsbD_iff (id : Ident) (i : Nat) :
    id.getLsbD i = true ↔ id.toNat / 2 ^ i % 2 = 1 := by
  rw [getLsbD_eq_decide, decide_eq_true_iff]

/-- A clear bit. -/
theorem not_getLsbD_iff (id : Ident) (i : Nat) :
    (!id.getLsbD i) = true ↔ id.toNat / 2 ^ i % 2 = 0 := by
  rw [getLsbD_eq_decide, Bool.not_eq_true', decide_eq_false_iff_not]
  omega

theorem contentBits_eq (id : Ident) : id.contentBits = id.toNat / 2 ^ 12 % 2 ^ 15 := toNat_slice ..

theorem isControl_iff (id : Ident) (c : Nat) :
    id.isControl c = true ↔
      id.toNat / 2 ^ 27 % 2 = 0 ∧ id.toNat / 2 ^ 12 % 2 ^ 15 = c := by
  rw [Ident.isControl, Bool.and_eq_true, not_getLsbD_iff, beq_iff_eq, contentBits_eq]

theorem isFormat_iff (id : Ident) (ff : Nat) :
    id.isFormat ff = true ↔
      id.toNat / 2 ^ 27 % 2 = 1 ∧ id.toNat / 2 ^ 24 % 2 ^ 3 = ff := by
  rw [Ident.isFormat, Bool.and_eq_true, getLsbD_iff, beq_iff_eq, toNat_slice]

theorem isMti_iff (id : Ident) (gp tw : Nat) :
    id.isMti gp tw = true ↔
      id.isFormat 1 = true ∧ id.toNat / 2 ^ 22 % 2 ^ 2 = gp ∧ id.toNat / 2 ^ 17 % 2 ^ 5 = tw := by
  simp only [Ident.isMti, Bool.and_eq_true, beq_iff_eq, toNat_slice, and_assoc]

theorem not_isMti_iff (id : Ident) (gp tw : Nat) :
    (!id.isMti gp tw) = true ↔ ¬id.isMti gp tw = true := by simp

theorem isConsumerIdentified_iff (id : Ident) (mm : Nat) :
    id.isConsumerIdentified mm = true ↔
      id.isMti 1 0x06 = true ∧ id.toNat / 2 ^ 12 % 2 ^ 2 = mm := by
  simp only [Ident.isConsumerIdentified, Bool.and_eq_true, beq_iff_eq, toNat_slice]

/-- A content that is none of the eight named ones. -/
theorem not_named_iff (c : Nat) :
    (!namedContents.contains c) = true ↔
      c ≠ 0x700 ∧ c ≠ 0x701 ∧ c ≠ 0x702 ∧ c ≠ 0x703 ∧
        c ≠ 0x710 ∧ c ≠ 0x711 ∧ c ≠ 0x712 ∧ c ≠ 0x713 := by
  simp [namedContents]

end Sys2Proof
end

