-- ==== Sys2Proof/Laws/Decoding.lean ====
section
/-! SUPPORT. What the classification table selects, as one chain of tests on the number `id` is, per
format (R94 to R98). -/

namespace Sys2Proof

/-- The first row is tried first. -/
theorem firstRow_cons (r : Row) (rows : List Row) (f : CanFrame) :
    firstRow (r :: rows) f =
      if f.id &&& r.mask = r.pattern then .ok (r.make f) else firstRow rows f := by
  unfold firstRow
  by_cases h : f.id &&& r.mask = r.pattern
  · rw [List.find?_cons_of_pos (by simpa [Row.applies] using h), if_pos h]
  · rw [List.find?_cons_of_neg (by simpa [Row.applies] using h), if_neg h]

/-- The row of a control frame with content `c`. -/
def controlRowOf (f : CanFrame) (c : Nat) : Instr :=
  if c = 0x0700 then .rid f else if c = 0x0701 then .amd f
  else if c = 0x0702 then .ame f else if c = 0x0703 then .amr f
  else if c = 0x0710 then .eir0 f else if c = 0x0711 then .eir1 f
  else if c = 0x0712 then .eir2 f else if c = 0x0713 then .eir3 f
  else if c = 0x1000 then .ctrlReserved1000 f else if 0x4000 ≤ c then .cidHi f
  else if 0x2000 ≤ c then .cidMid f else if 0x1000 ≤ c then .cidLo f else .ctrlReserved f

/-- The row of an OpenLCB frame of format `n`. -/
def openLcbRowOf (f : CanFrame) (n : Nat) : Instr :=
  if n = 0 then .olcbReserved0 f else if n = 1 then .olcbGlobalAddressedMti f
  else if n = 2 then .olcbDatagramComplete f else if n = 3 then .olcbDatagramFirst f
  else if n = 4 then .olcbDatagramMiddle f else if n = 5 then .olcbDatagramFinal f
  else if n = 6 then .olcbReserved6 f else .olcbStreamData f

/-- The row of a format-1 frame with priority and type `t` together and modifier `m`. -/
def mtiRowOf (f : CanFrame) (t m : Nat) : Instr :=
  if t = 0x08 then .mtiInitializationComplete f
  else if t = 0x26 ∧ m = 0 then .mtiConsumerIdentifiedValid f
  else if t = 0x26 ∧ m = 1 then .mtiConsumerIdentifiedInvalid f
  else if t = 0x26 ∧ m = 2 then .mtiNone f
  else if t = 0x26 ∧ m = 3 then .mtiConsumerIdentifiedUnknown f
  else .mtiUndeciphered f

/-- The control rows. -/
theorem decodeFrame_control (f : CanFrame) (h : f.id.toNat / 2 ^ 27 % 2 = 0) :
    decodeFrame f = .ok (controlRowOf f (f.id.toNat / 2 ^ 12 % 2 ^ 15)) := by
  have hf : (f.id &&& 0x08000000 == 0) = true := by
    rw [beq_iff_eq, and_family _ _ (by decide)]
    simpa using h
  rw [decodeFrame, if_pos hf]
  simp only [controlRowOf, apply_ite (Except.ok (ε := DecodeError)), ctrlRows]
  repeat
    rw [firstRow_cons]
    refine ite_congr (propext ?_) (fun _ => rfl) (fun _ => ?_)
    · dsimp only
      first
      | refine (and_content _ _ (by decide)).trans ?_
      | refine (and_cidHi _ _ (by decide)).trans ?_
      | refine (and_cidMid _ _ (by decide)).trans ?_
      | refine (and_format _ _ (by decide)).trans ?_
      simp only [BitVec.ofNat_eq_ofNat, BitVec.toNat_ofNat]
      omega
  rw [firstRow_cons, if_pos (beq_iff_eq.1 hf)]

/-- The OpenLCB rows. -/
theorem decodeFrame_openLcb (f : CanFrame) (h : f.id.toNat / 2 ^ 27 % 2 = 1) :
    decodeFrame f = .ok (openLcbRowOf f (f.id.toNat / 2 ^ 24 % 2 ^ 3)) := by
  have hf : ¬(f.id &&& 0x08000000 == 0) = true := by
    rw [beq_iff_eq, and_family _ _ (by decide)]
    simp only [BitVec.ofNat_eq_ofNat, BitVec.toNat_ofNat]
    omega
  rw [decodeFrame, if_neg hf]
  simp only [openLcbRowOf, apply_ite (Except.ok (ε := DecodeError)), olcbRows]
  iterate 7
    rw [firstRow_cons]
    refine ite_congr (propext ?_) (fun _ => rfl) (fun _ => ?_)
    · refine (and_format _ _ (by decide)).trans ?_
      simp only [BitVec.ofNat_eq_ofNat, BitVec.toNat_ofNat]
      omega
  rw [firstRow_cons, if_pos]
  refine (and_format _ _ (by decide)).2 ?_
  simp only [BitVec.ofNat_eq_ofNat, BitVec.toNat_ofNat]
  omega

/-- The MTI rows, of a format-1 frame. -/
theorem decodeMti_formatOne (f : CanFrame) (h : f.id.toNat / 2 ^ 24 % 2 ^ 4 = 9) :
    decodeMti f =
      .ok (mtiRowOf f (f.id.toNat / 2 ^ 17 % 2 ^ 7) (f.id.toNat / 2 ^ 12 % 2 ^ 2)) := by
  have hf : f.id &&& 0x0F000000 = 0x09000000 := by
    rw [and_format _ _ (by decide)]
    exact h
  rw [decodeMti, if_pos (beq_iff_eq.2 hf)]
  simp only [mtiRowOf, apply_ite (Except.ok (ε := DecodeError)), mtiRows]
  iterate 5
    rw [firstRow_cons]
    refine ite_congr (propext ?_) (fun _ => rfl) (fun _ => ?_)
    · dsimp only
      first
      | refine (and_type _ _ (by decide)).trans ?_
      | refine (and_consumerIdentified _ _ (by decide)).trans ?_
      simp only [BitVec.ofNat_eq_ofNat, BitVec.toNat_ofNat]
      omega
  rw [firstRow_cons, if_pos hf]

/-- No MTI row for a frame that is not of format 1. -/
theorem decodeMti_otherFormat (f : CanFrame) (h : f.id.toNat / 2 ^ 24 % 2 ^ 4 ≠ 9) :
    decodeMti f = .error .notFormatOne := by
  have hf : ¬f.id &&& 0x0F000000 = 0x09000000 := by
    rw [and_format _ _ (by decide)]
    exact h
  rw [decodeMti, if_neg (by simpa using hf)]

/-! ### The rows' words and conditions -/

/-- What holds of both branches holds of the choice. -/
theorem ite_elim {α : Type} {P : α → Prop} {c : Prop} [Decidable c] {a b : α} (ha : c → P a)
    (hb : ¬c → P b) : P (if c then a else b) := by
  by_cases h : c
  · rw [if_pos h]
    exact ha h
  · rw [if_neg h]
    exact hb h

theorem encode_controlRowOf (f : CanFrame) (c : Nat) :
    encode (controlRowOf f c) = (.frame, frameWord f) := by
  unfold controlRowOf
  iterate 12
    refine ite_elim (P := fun i => encode i = (.frame, frameWord f)) (fun _ => rfl) fun _ => ?_
  rfl

theorem encode_openLcbRowOf (f : CanFrame) (n : Nat) :
    encode (openLcbRowOf f n) = (.frame, frameWord f) := by
  unfold openLcbRowOf
  iterate 7
    refine ite_elim (P := fun i => encode i = (.frame, frameWord f)) (fun _ => rfl) fun _ => ?_
  rfl

theorem encode_mtiRowOf (f : CanFrame) (t m : Nat) :
    encode (mtiRowOf f t m) = (.mti, frameWord f) := by
  unfold mtiRowOf
  iterate 5
    refine ite_elim (P := fun i => encode i = (.mti, frameWord f)) (fun _ => rfl) fun _ => ?_
  rfl

theorem wellFormed_controlRowOf (f : CanFrame) (h : f.id.toNat / 2 ^ 27 % 2 = 0) :
    (controlRowOf f (f.id.toNat / 2 ^ 12 % 2 ^ 15)).wellFormed = true := by
  unfold controlRowOf
  iterate 12
    refine ite_elim (P := fun i : Instr => i.wellFormed = true) (fun _ => ?_) fun _ => ?_
    rotate_left
  all_goals
    simp only [Instr.wellFormed, Bool.and_eq_true, decide_eq_true_iff, not_named_iff,
      isControl_iff, contentBits_eq, not_getLsbD_iff, getLsbD_iff]
    omega

theorem wellFormed_openLcbRowOf (f : CanFrame) (h : f.id.toNat / 2 ^ 27 % 2 = 1) :
    (openLcbRowOf f (f.id.toNat / 2 ^ 24 % 2 ^ 3)).wellFormed = true := by
  unfold openLcbRowOf
  iterate 7
    refine ite_elim (P := fun i : Instr => i.wellFormed = true) (fun _ => ?_) fun _ => ?_
    rotate_left
  all_goals
    simp only [Instr.wellFormed, isFormat_iff]
    omega

theorem wellFormed_mtiRowOf (f : CanFrame) (h : f.id.toNat / 2 ^ 24 % 2 ^ 4 = 9) :
    (mtiRowOf f (f.id.toNat / 2 ^ 17 % 2 ^ 7) (f.id.toNat / 2 ^ 12 % 2 ^ 2)).wellFormed = true := by
  unfold mtiRowOf
  iterate 5
    refine ite_elim (P := fun i : Instr => i.wellFormed = true) (fun _ => ?_) fun _ => ?_
    rotate_left
  all_goals
    simp only [Instr.wellFormed, Bool.and_eq_true, not_isMti_iff, isConsumerIdentified_iff,
      isMti_iff, isFormat_iff]
    omega

/-! ### Frame words -/

/-- A frame is read back from its word. -/
@[simp] theorem frameOfWord_frameWord (f : CanFrame) : frameOfWord (frameWord f) = .ok f := by
  have h₁ : frameWord f >>> 100 = 0 := by
    apply BitVec.eq_of_getLsbD_eq
    intro i hi
    simp [frameWord, BitVec.getLsbD_ushiftRight, getLsbD_place]
  have h₂ : (frameWord f).extractLsb' 0 100 = f.pack := by
    apply BitVec.eq_of_getLsbD_eq
    intro i hi
    simp [frameWord, getLsbD_place, hi]
    omega
  simp [frameOfWord, h₁, h₂]

/-- A word that holds a frame is that frame's word. -/
theorem frameWord_of_frameOfWord {w : Word} {f : CanFrame} (h : frameOfWord w = .ok f) :
    frameWord f = w := by
  unfold frameOfWord at h
  split at h
  · rename_i hw
    obtain rfl := Except.ok.inj h
    apply BitVec.eq_of_getLsbD_eq
    intro i hi
    have hz := congrArg (·.getLsbD (i - 100)) (beq_iff_eq.1 hw)
    simp only [BitVec.ofNat_eq_ofNat, frameWord, getLsbD_place, BitVec.getLsbD_ushiftRight,
      BitVec.getLsbD_zero, CanFrame.pack_unpack, BitVec.getLsbD_extractLsb'] at hz ⊢
    by_cases hi' : i < 100
    · simp [hi', hi]
    · have e : 100 + (i - 100) = i := by omega
      rw [e] at hz
      simp [hi', hz]
  · simp at h

end Sys2Proof
end

