-- ==== Sys2Proof/Laws/Fields.lean ====
section
/-! SUPPORT. The one lemma of `field`: a contiguous mask and its shift give the slice (R87). -/

namespace Sys2Proof.Machine

/-- Masking `n` ones at `shift` and shifting down is the slice `id[shift+n-1 : shift]`. -/
theorem field_eq_slice (id : Ident) (shift n : Nat) (h : shift + n ≤ 32) :
    field id (place 32 (BitVec.allOnes n) shift) shift n = id.extractLsb' shift n := by
  apply BitVec.eq_of_getLsbD_eq
  intro i hi
  simp only [field, BitVec.getLsbD_setWidth, BitVec.getLsbD_ushiftRight, BitVec.getLsbD_and,
    getLsbD_place, BitVec.getLsbD_allOnes, BitVec.getLsbD_extractLsb']
  simp [hi, show shift + i < 32 by omega]

/-- `payload[k]` lies at its own bits of the node identifier. -/
theorem getLsbD_lane (b : Byte) (shift i : Nat) (h : shift + 8 ≤ 48) :
    (lane b shift).getLsbD i = (decide (shift ≤ i) && b.getLsbD (i - shift)) := by
  simp only [lane, BitVec.getLsbD_shiftLeft, BitVec.getLsbD_setWidth]
  by_cases hb : i - shift < 8
  · by_cases hi : i < shift
    · simp [hi, Nat.not_le.2 hi]
    · have h₁ : i < 48 := by omega
      have h₂ : i - shift < 48 := by omega
      simp only [h₁, h₂, hi, Nat.not_lt.1 hi, decide_true, decide_false, Bool.not_false,
        Bool.true_and]
  · simp [BitVec.getLsbD_of_ge b _ (Nat.not_lt.1 hb)]

end Sys2Proof.Machine
end

