-- ==== Sys2Proof/Laws/State.lean ====
section
/-! SUPPORT. One lemma per field and update of State, so that no later proof unfolds a record update;
and the same for what the updates leave of the ghost counters and of a slot read. -/

namespace Sys2Proof.Machine

/-! ### slotWrite -/

@[simp] theorem State.slotWrite_params (s : State) (i : Nat) (f : CanFrame) :
    (s.slotWrite i f).params = s.params := rfl
@[simp] theorem State.slotWrite_sched (s : State) (i : Nat) (f : CanFrame) :
    (s.slotWrite i f).sched = s.sched := rfl
@[simp] theorem State.slotWrite_lifecycle (s : State) (i : Nat) (f : CanFrame) :
    (s.slotWrite i f).lifecycle = s.lifecycle := rfl
@[simp] theorem State.slotWrite_pushPosition (s : State) (i : Nat) (f : CanFrame) :
    (s.slotWrite i f).pushPosition = s.pushPosition := rfl
@[simp] theorem State.slotWrite_pullPosition (s : State) (i : Nat) (f : CanFrame) :
    (s.slotWrite i f).pullPosition = s.pullPosition := rfl
@[simp] theorem State.slotWrite_dropCount (s : State) (i : Nat) (f : CanFrame) :
    (s.slotWrite i f).dropCount = s.dropCount := rfl
@[simp] theorem State.slotWrite_slots (s : State) (i : Nat) (f : CanFrame) :
    (s.slotWrite i f).slots = Memory.write s.slots i f := rfl
@[simp] theorem State.slotWrite_producer (s : State) (i : Nat) (f : CanFrame) :
    (s.slotWrite i f).producer = s.producer := rfl
@[simp] theorem State.slotWrite_consumer (s : State) (i : Nat) (f : CanFrame) :
    (s.slotWrite i f).consumer = s.consumer := rfl
@[simp] theorem State.slotWrite_inputs (s : State) (i : Nat) (f : CanFrame) :
    (s.slotWrite i f).inputs = s.inputs := rfl
@[simp] theorem State.slotWrite_reported (s : State) (i : Nat) (f : CanFrame) :
    (s.slotWrite i f).reported = s.reported := rfl
@[simp] theorem State.slotWrite_returns (s : State) (i : Nat) (f : CanFrame) :
    (s.slotWrite i f).returns = s.returns := rfl
@[simp] theorem State.slotWrite_ghost (s : State) (i : Nat) (f : CanFrame) :
    (s.slotWrite i f).ghost = s.ghost := rfl

/-! ### storePush -/

@[simp] theorem State.storePush_params (s : State) (v : Nat) :
    (s.storePush v).params = s.params := rfl
@[simp] theorem State.storePush_sched (s : State) (v : Nat) : (s.storePush v).sched = s.sched := rfl
@[simp] theorem State.storePush_lifecycle (s : State) (v : Nat) :
    (s.storePush v).lifecycle = s.lifecycle := rfl
@[simp] theorem State.storePush_pushPosition (s : State) (v : Nat) :
    (s.storePush v).pushPosition = v := rfl
@[simp] theorem State.storePush_pullPosition (s : State) (v : Nat) :
    (s.storePush v).pullPosition = s.pullPosition := rfl
@[simp] theorem State.storePush_dropCount (s : State) (v : Nat) :
    (s.storePush v).dropCount = s.dropCount := rfl
@[simp] theorem State.storePush_slots (s : State) (v : Nat) : (s.storePush v).slots = s.slots := rfl
@[simp] theorem State.storePush_producer (s : State) (v : Nat) :
    (s.storePush v).producer = s.producer := rfl
@[simp] theorem State.storePush_consumer (s : State) (v : Nat) :
    (s.storePush v).consumer = s.consumer := rfl
@[simp] theorem State.storePush_inputs (s : State) (v : Nat) :
    (s.storePush v).inputs = s.inputs := rfl
@[simp] theorem State.storePush_reported (s : State) (v : Nat) :
    (s.storePush v).reported = s.reported := rfl
@[simp] theorem State.storePush_returns (s : State) (v : Nat) :
    (s.storePush v).returns = s.returns := rfl
@[simp] theorem State.storePush_ghost (s : State) (v : Nat) : (s.storePush v).ghost = s.ghost := rfl

/-! ### storePull -/

@[simp] theorem State.storePull_params (s : State) (v : Nat) :
    (s.storePull v).params = s.params := rfl
@[simp] theorem State.storePull_sched (s : State) (v : Nat) : (s.storePull v).sched = s.sched := rfl
@[simp] theorem State.storePull_lifecycle (s : State) (v : Nat) :
    (s.storePull v).lifecycle = s.lifecycle := rfl
@[simp] theorem State.storePull_pushPosition (s : State) (v : Nat) :
    (s.storePull v).pushPosition = s.pushPosition := rfl
@[simp] theorem State.storePull_pullPosition (s : State) (v : Nat) :
    (s.storePull v).pullPosition = v := rfl
@[simp] theorem State.storePull_dropCount (s : State) (v : Nat) :
    (s.storePull v).dropCount = s.dropCount := rfl
@[simp] theorem State.storePull_slots (s : State) (v : Nat) : (s.storePull v).slots = s.slots := rfl
@[simp] theorem State.storePull_producer (s : State) (v : Nat) :
    (s.storePull v).producer = s.producer := rfl
@[simp] theorem State.storePull_consumer (s : State) (v : Nat) :
    (s.storePull v).consumer = s.consumer := rfl
@[simp] theorem State.storePull_inputs (s : State) (v : Nat) :
    (s.storePull v).inputs = s.inputs := rfl
@[simp] theorem State.storePull_reported (s : State) (v : Nat) :
    (s.storePull v).reported = s.reported := rfl
@[simp] theorem State.storePull_returns (s : State) (v : Nat) :
    (s.storePull v).returns = s.returns := rfl
@[simp] theorem State.storePull_ghost (s : State) (v : Nat) : (s.storePull v).ghost = s.ghost := rfl

/-! ### publish -/

@[simp] theorem State.publish_params (s : State) (f : CanFrame) :
    (s.publish f).params = s.params := rfl
@[simp] theorem State.publish_sched (s : State) (f : CanFrame) :
    (s.publish f).sched = s.sched := rfl
@[simp] theorem State.publish_lifecycle (s : State) (f : CanFrame) :
    (s.publish f).lifecycle = s.lifecycle := rfl
@[simp] theorem State.publish_pushPosition (s : State) (f : CanFrame) :
    (s.publish f).pushPosition = wrapInc s.params.posw s.pushPosition := rfl
@[simp] theorem State.publish_pullPosition (s : State) (f : CanFrame) :
    (s.publish f).pullPosition = s.pullPosition := rfl
@[simp] theorem State.publish_dropCount (s : State) (f : CanFrame) :
    (s.publish f).dropCount = s.dropCount := rfl
@[simp] theorem State.publish_slots (s : State) (f : CanFrame) :
    (s.publish f).slots = s.slots := rfl
@[simp] theorem State.publish_producer (s : State) (f : CanFrame) :
    (s.publish f).producer = s.producer := rfl
@[simp] theorem State.publish_consumer (s : State) (f : CanFrame) :
    (s.publish f).consumer = s.consumer := rfl
@[simp] theorem State.publish_inputs (s : State) (f : CanFrame) :
    (s.publish f).inputs = s.inputs := rfl
@[simp] theorem State.publish_reported (s : State) (f : CanFrame) :
    (s.publish f).reported = s.reported := rfl
@[simp] theorem State.publish_returns (s : State) (f : CanFrame) :
    (s.publish f).returns = s.returns := rfl
@[simp] theorem State.publish_ghost (s : State) (f : CanFrame) :
    (s.publish f).ghost = { s.ghost with stored := s.ghost.stored ++ [f] } := rfl

/-! ### advance -/

@[simp] theorem State.advance_params (s : State) (g : CanFrame) :
    (s.advance g).params = s.params := rfl
@[simp] theorem State.advance_sched (s : State) (g : CanFrame) :
    (s.advance g).sched = s.sched := rfl
@[simp] theorem State.advance_lifecycle (s : State) (g : CanFrame) :
    (s.advance g).lifecycle = s.lifecycle := rfl
@[simp] theorem State.advance_pushPosition (s : State) (g : CanFrame) :
    (s.advance g).pushPosition = s.pushPosition := rfl
@[simp] theorem State.advance_pullPosition (s : State) (g : CanFrame) :
    (s.advance g).pullPosition = wrapInc s.params.posw s.pullPosition := rfl
@[simp] theorem State.advance_dropCount (s : State) (g : CanFrame) :
    (s.advance g).dropCount = s.dropCount := rfl
@[simp] theorem State.advance_slots (s : State) (g : CanFrame) :
    (s.advance g).slots = s.slots := rfl
@[simp] theorem State.advance_producer (s : State) (g : CanFrame) :
    (s.advance g).producer = s.producer := rfl
@[simp] theorem State.advance_consumer (s : State) (g : CanFrame) :
    (s.advance g).consumer = s.consumer := rfl
@[simp] theorem State.advance_inputs (s : State) (g : CanFrame) :
    (s.advance g).inputs = s.inputs := rfl
@[simp] theorem State.advance_reported (s : State) (g : CanFrame) :
    (s.advance g).reported = s.reported := rfl
@[simp] theorem State.advance_returns (s : State) (g : CanFrame) :
    (s.advance g).returns = s.returns := rfl
@[simp] theorem State.advance_ghost (s : State) (g : CanFrame) :
    (s.advance g).ghost = { s.ghost with taken := s.ghost.taken ++ [g] } := rfl

/-! ### dropFrame -/

@[simp] theorem State.dropFrame_params (s : State) : s.dropFrame.params = s.params := rfl
@[simp] theorem State.dropFrame_sched (s : State) : s.dropFrame.sched = s.sched := rfl
@[simp] theorem State.dropFrame_lifecycle (s : State) : s.dropFrame.lifecycle = s.lifecycle := rfl
@[simp] theorem State.dropFrame_pushPosition (s : State) :
    s.dropFrame.pushPosition = s.pushPosition := rfl
@[simp] theorem State.dropFrame_pullPosition (s : State) :
    s.dropFrame.pullPosition = s.pullPosition := rfl
@[simp] theorem State.dropFrame_dropCount (s : State) :
    s.dropFrame.dropCount = wrapInc s.params.dropw s.dropCount := rfl
@[simp] theorem State.dropFrame_slots (s : State) : s.dropFrame.slots = s.slots := rfl
@[simp] theorem State.dropFrame_producer (s : State) : s.dropFrame.producer = s.producer := rfl
@[simp] theorem State.dropFrame_consumer (s : State) : s.dropFrame.consumer = s.consumer := rfl
@[simp] theorem State.dropFrame_inputs (s : State) : s.dropFrame.inputs = s.inputs := rfl
@[simp] theorem State.dropFrame_reported (s : State) : s.dropFrame.reported = s.reported := rfl
@[simp] theorem State.dropFrame_returns (s : State) : s.dropFrame.returns = s.returns := rfl
@[simp] theorem State.dropFrame_ghost (s : State) :
    s.dropFrame.ghost = { s.ghost with drops := s.ghost.drops + 1 } := rfl

/-! ### returnFrame -/

@[simp] theorem State.returnFrame_params (s : State) (g : CanFrame) :
    (s.returnFrame g).params = s.params := rfl
@[simp] theorem State.returnFrame_sched (s : State) (g : CanFrame) :
    (s.returnFrame g).sched = s.sched := rfl
@[simp] theorem State.returnFrame_lifecycle (s : State) (g : CanFrame) :
    (s.returnFrame g).lifecycle = s.lifecycle := rfl
@[simp] theorem State.returnFrame_pushPosition (s : State) (g : CanFrame) :
    (s.returnFrame g).pushPosition = s.pushPosition := rfl
@[simp] theorem State.returnFrame_pullPosition (s : State) (g : CanFrame) :
    (s.returnFrame g).pullPosition = s.pullPosition := rfl
@[simp] theorem State.returnFrame_dropCount (s : State) (g : CanFrame) :
    (s.returnFrame g).dropCount = s.dropCount := rfl
@[simp] theorem State.returnFrame_slots (s : State) (g : CanFrame) :
    (s.returnFrame g).slots = s.slots := rfl
@[simp] theorem State.returnFrame_producer (s : State) (g : CanFrame) :
    (s.returnFrame g).producer = s.producer := rfl
@[simp] theorem State.returnFrame_consumer (s : State) (g : CanFrame) :
    (s.returnFrame g).consumer = s.consumer := rfl
@[simp] theorem State.returnFrame_inputs (s : State) (g : CanFrame) :
    (s.returnFrame g).inputs = s.inputs := rfl
@[simp] theorem State.returnFrame_reported (s : State) (g : CanFrame) :
    (s.returnFrame g).reported = s.reported := rfl
@[simp] theorem State.returnFrame_returns (s : State) (g : CanFrame) :
    (s.returnFrame g).returns = { s.returns with pop := some (some g) } := rfl
@[simp] theorem State.returnFrame_ghost (s : State) (g : CanFrame) :
    (s.returnFrame g).ghost = s.ghost := rfl

/-! ### returnDropCount -/

@[simp] theorem State.returnDropCount_params (s : State) :
    s.returnDropCount.params = s.params := rfl
@[simp] theorem State.returnDropCount_sched (s : State) : s.returnDropCount.sched = s.sched := rfl
@[simp] theorem State.returnDropCount_lifecycle (s : State) :
    s.returnDropCount.lifecycle = s.lifecycle := rfl
@[simp] theorem State.returnDropCount_pushPosition (s : State) :
    s.returnDropCount.pushPosition = s.pushPosition := rfl
@[simp] theorem State.returnDropCount_pullPosition (s : State) :
    s.returnDropCount.pullPosition = s.pullPosition := rfl
@[simp] theorem State.returnDropCount_dropCount (s : State) :
    s.returnDropCount.dropCount = s.dropCount := rfl
@[simp] theorem State.returnDropCount_slots (s : State) : s.returnDropCount.slots = s.slots := rfl
@[simp] theorem State.returnDropCount_producer (s : State) :
    s.returnDropCount.producer = s.producer := rfl
@[simp] theorem State.returnDropCount_consumer (s : State) :
    s.returnDropCount.consumer = s.consumer := rfl
@[simp] theorem State.returnDropCount_inputs (s : State) :
    s.returnDropCount.inputs = s.inputs := rfl
@[simp] theorem State.returnDropCount_reported (s : State) :
    s.returnDropCount.reported = s.reported := rfl
@[simp] theorem State.returnDropCount_returns (s : State) :
    s.returnDropCount.returns = { s.returns with dropCount := some s.dropCount } := rfl
@[simp] theorem State.returnDropCount_ghost (s : State) : s.returnDropCount.ghost = s.ghost := rfl

/-! ### returnClass -/

@[simp] theorem State.returnClass_params (s : State) (d : DecodedFrame) :
    (s.returnClass d).params = s.params := rfl
@[simp] theorem State.returnClass_sched (s : State) (d : DecodedFrame) :
    (s.returnClass d).sched = s.sched := rfl
@[simp] theorem State.returnClass_lifecycle (s : State) (d : DecodedFrame) :
    (s.returnClass d).lifecycle = s.lifecycle := rfl
@[simp] theorem State.returnClass_pushPosition (s : State) (d : DecodedFrame) :
    (s.returnClass d).pushPosition = s.pushPosition := rfl
@[simp] theorem State.returnClass_pullPosition (s : State) (d : DecodedFrame) :
    (s.returnClass d).pullPosition = s.pullPosition := rfl
@[simp] theorem State.returnClass_dropCount (s : State) (d : DecodedFrame) :
    (s.returnClass d).dropCount = s.dropCount := rfl
@[simp] theorem State.returnClass_slots (s : State) (d : DecodedFrame) :
    (s.returnClass d).slots = s.slots := rfl
@[simp] theorem State.returnClass_producer (s : State) (d : DecodedFrame) :
    (s.returnClass d).producer = s.producer := rfl
@[simp] theorem State.returnClass_consumer (s : State) (d : DecodedFrame) :
    (s.returnClass d).consumer = s.consumer := rfl
@[simp] theorem State.returnClass_inputs (s : State) (d : DecodedFrame) :
    (s.returnClass d).inputs = s.inputs := rfl
@[simp] theorem State.returnClass_reported (s : State) (d : DecodedFrame) :
    (s.returnClass d).reported = s.reported := rfl
@[simp] theorem State.returnClass_returns (s : State) (d : DecodedFrame) :
    (s.returnClass d).returns = { s.returns with classify := some d } := rfl
@[simp] theorem State.returnClass_ghost (s : State) (d : DecodedFrame) :
    (s.returnClass d).ghost = s.ghost := rfl

/-! ### report -/

@[simp] theorem State.report_params (s : State) (d : DecodedFrame) :
    (s.report d).params = s.params := rfl
@[simp] theorem State.report_sched (s : State) (d : DecodedFrame) :
    (s.report d).sched = s.sched := rfl
@[simp] theorem State.report_lifecycle (s : State) (d : DecodedFrame) :
    (s.report d).lifecycle = s.lifecycle := rfl
@[simp] theorem State.report_pushPosition (s : State) (d : DecodedFrame) :
    (s.report d).pushPosition = s.pushPosition := rfl
@[simp] theorem State.report_pullPosition (s : State) (d : DecodedFrame) :
    (s.report d).pullPosition = s.pullPosition := rfl
@[simp] theorem State.report_dropCount (s : State) (d : DecodedFrame) :
    (s.report d).dropCount = s.dropCount := rfl
@[simp] theorem State.report_slots (s : State) (d : DecodedFrame) :
    (s.report d).slots = s.slots := rfl
@[simp] theorem State.report_producer (s : State) (d : DecodedFrame) :
    (s.report d).producer = s.producer := rfl
@[simp] theorem State.report_consumer (s : State) (d : DecodedFrame) :
    (s.report d).consumer = s.consumer := rfl
@[simp] theorem State.report_inputs (s : State) (d : DecodedFrame) :
    (s.report d).inputs = s.inputs := rfl
@[simp] theorem State.report_reported (s : State) (d : DecodedFrame) :
    (s.report d).reported = s.reported ++ [d] := rfl
@[simp] theorem State.report_returns (s : State) (d : DecodedFrame) :
    (s.report d).returns = { s.returns with consumeIter := some (some d) } := rfl
@[simp] theorem State.report_ghost (s : State) (d : DecodedFrame) :
    (s.report d).ghost = s.ghost := rfl

/-! ### inUse -/

@[simp] theorem State.inUse_params (s : State) : s.inUse.params = s.params := rfl
@[simp] theorem State.inUse_sched (s : State) : s.inUse.sched = s.sched := rfl
@[simp] theorem State.inUse_lifecycle (s : State) : s.inUse.lifecycle = .running := rfl
@[simp] theorem State.inUse_pushPosition (s : State) : s.inUse.pushPosition = s.pushPosition := rfl
@[simp] theorem State.inUse_pullPosition (s : State) : s.inUse.pullPosition = s.pullPosition := rfl
@[simp] theorem State.inUse_dropCount (s : State) : s.inUse.dropCount = s.dropCount := rfl
@[simp] theorem State.inUse_slots (s : State) : s.inUse.slots = s.slots := rfl
@[simp] theorem State.inUse_producer (s : State) : s.inUse.producer = s.producer := rfl
@[simp] theorem State.inUse_consumer (s : State) : s.inUse.consumer = s.consumer := rfl
@[simp] theorem State.inUse_inputs (s : State) : s.inUse.inputs = s.inputs := rfl
@[simp] theorem State.inUse_reported (s : State) : s.inUse.reported = s.reported := rfl
@[simp] theorem State.inUse_returns (s : State) : s.inUse.returns = s.returns := rfl
@[simp] theorem State.inUse_ghost (s : State) : s.inUse.ghost = s.ghost := rfl

/-! ### returnPush -/

@[simp] theorem State.returnPush_params (s : State) (c : PushCaller) (ok : Bool) :
    (s.returnPush c ok).params = s.params := by cases c <;> rfl
@[simp] theorem State.returnPush_sched (s : State) (c : PushCaller) (ok : Bool) :
    (s.returnPush c ok).sched = s.sched := by cases c <;> rfl
@[simp] theorem State.returnPush_lifecycle (s : State) (c : PushCaller) (ok : Bool) :
    (s.returnPush c ok).lifecycle = s.lifecycle := by cases c <;> rfl
@[simp] theorem State.returnPush_pushPosition (s : State) (c : PushCaller) (ok : Bool) :
    (s.returnPush c ok).pushPosition = s.pushPosition := by cases c <;> rfl
@[simp] theorem State.returnPush_pullPosition (s : State) (c : PushCaller) (ok : Bool) :
    (s.returnPush c ok).pullPosition = s.pullPosition := by cases c <;> rfl
@[simp] theorem State.returnPush_dropCount (s : State) (c : PushCaller) (ok : Bool) :
    (s.returnPush c ok).dropCount = s.dropCount := by cases c <;> rfl
@[simp] theorem State.returnPush_slots (s : State) (c : PushCaller) (ok : Bool) :
    (s.returnPush c ok).slots = s.slots := by cases c <;> rfl
@[simp] theorem State.returnPush_producer (s : State) (c : PushCaller) (ok : Bool) :
    (s.returnPush c ok).producer = s.producer := by cases c <;> rfl
@[simp] theorem State.returnPush_consumer (s : State) (c : PushCaller) (ok : Bool) :
    (s.returnPush c ok).consumer = s.consumer := by cases c <;> rfl
@[simp] theorem State.returnPush_inputs (s : State) (c : PushCaller) (ok : Bool) :
    (s.returnPush c ok).inputs = s.inputs := by cases c <;> rfl
@[simp] theorem State.returnPush_reported (s : State) (c : PushCaller) (ok : Bool) :
    (s.returnPush c ok).reported = s.reported := by cases c <;> rfl
@[simp] theorem State.returnPush_ghost (s : State) (c : PushCaller) (ok : Bool) :
    (s.returnPush c ok).ghost = s.ghost := by cases c <;> rfl

/-! ### returnEmpty -/

@[simp] theorem State.returnEmpty_params (s : State) (c : PopCaller) :
    (s.returnEmpty c).params = s.params := by cases c <;> rfl
@[simp] theorem State.returnEmpty_sched (s : State) (c : PopCaller) :
    (s.returnEmpty c).sched = s.sched := by cases c <;> rfl
@[simp] theorem State.returnEmpty_lifecycle (s : State) (c : PopCaller) :
    (s.returnEmpty c).lifecycle = s.lifecycle := by cases c <;> rfl
@[simp] theorem State.returnEmpty_pushPosition (s : State) (c : PopCaller) :
    (s.returnEmpty c).pushPosition = s.pushPosition := by cases c <;> rfl
@[simp] theorem State.returnEmpty_pullPosition (s : State) (c : PopCaller) :
    (s.returnEmpty c).pullPosition = s.pullPosition := by cases c <;> rfl
@[simp] theorem State.returnEmpty_dropCount (s : State) (c : PopCaller) :
    (s.returnEmpty c).dropCount = s.dropCount := by cases c <;> rfl
@[simp] theorem State.returnEmpty_slots (s : State) (c : PopCaller) :
    (s.returnEmpty c).slots = s.slots := by cases c <;> rfl
@[simp] theorem State.returnEmpty_producer (s : State) (c : PopCaller) :
    (s.returnEmpty c).producer = s.producer := by cases c <;> rfl
@[simp] theorem State.returnEmpty_consumer (s : State) (c : PopCaller) :
    (s.returnEmpty c).consumer = s.consumer := by cases c <;> rfl
@[simp] theorem State.returnEmpty_inputs (s : State) (c : PopCaller) :
    (s.returnEmpty c).inputs = s.inputs := by cases c <;> rfl
@[simp] theorem State.returnEmpty_reported (s : State) (c : PopCaller) :
    (s.returnEmpty c).reported = s.reported := by cases c <;> rfl
@[simp] theorem State.returnEmpty_ghost (s : State) (c : PopCaller) :
    (s.returnEmpty c).ghost = s.ghost := by cases c <;> rfl

/-! ### construct -/

@[simp] theorem State.construct_params (s : State) (p : Params) : (s.construct p).params = p := rfl
@[simp] theorem State.construct_sched (s : State) (p : Params) :
    (s.construct p).sched = s.sched := rfl
@[simp] theorem State.construct_lifecycle (s : State) (p : Params) :
    (s.construct p).lifecycle = .running := rfl
@[simp] theorem State.construct_pushPosition (s : State) (p : Params) :
    (s.construct p).pushPosition = 0 := rfl
@[simp] theorem State.construct_pullPosition (s : State) (p : Params) :
    (s.construct p).pullPosition = 0 := rfl
@[simp] theorem State.construct_dropCount (s : State) (p : Params) :
    (s.construct p).dropCount = 0 := rfl
@[simp] theorem State.construct_slots (s : State) (p : Params) : (s.construct p).slots = [] := rfl
@[simp] theorem State.construct_producer (s : State) (p : Params) :
    (s.construct p).producer = .idle := rfl
@[simp] theorem State.construct_consumer (s : State) (p : Params) :
    (s.construct p).consumer = .idle := rfl
@[simp] theorem State.construct_inputs (s : State) (p : Params) :
    (s.construct p).inputs = s.inputs := rfl
@[simp] theorem State.construct_reported (s : State) (p : Params) :
    (s.construct p).reported = [] := rfl
@[simp] theorem State.construct_returns (s : State) (p : Params) :
    (s.construct p).returns = ⟨none, none, none, none, none⟩ := rfl
@[simp] theorem State.construct_ghost (s : State) (p : Params) :
    (s.construct p).ghost = ⟨[], [], 0⟩ := rfl

@[simp] theorem State.returnPush_push_returns (s : State) (ok : Bool) :
    (s.returnPush .push ok).returns = { s.returns with push := some ok } := rfl
@[simp] theorem State.returnPush_notify (s : State) (ok : Bool) : s.returnPush .notify ok = s := rfl
@[simp] theorem State.returnEmpty_pop_returns (s : State) :
    (s.returnEmpty .pop).returns = { s.returns with pop := some none } := rfl
@[simp] theorem State.returnEmpty_consumeIter_returns (s : State) :
    (s.returnEmpty .consumeIter).returns = { s.returns with consumeIter := some none } := rfl

/-! ### The agents' local state -/

@[simp] theorem Producer.snapshot_idle : Producer.idle.snapshot = none := rfl
@[simp] theorem Producer.snapshot_loaded (c f q) : (Producer.loaded c f q).snapshot = some q := rfl
@[simp] theorem Producer.snapshot_written (c f q) : (Producer.written c f q).snapshot = some q := rfl
@[simp] theorem Producer.staged_idle : Producer.idle.staged = none := rfl
@[simp] theorem Producer.staged_loaded (c f q) : (Producer.loaded c f q).staged = none := rfl
@[simp] theorem Producer.staged_written (c f q) : (Producer.written c f q).staged = some f := rfl
@[simp] theorem Consumer.taking_idle : Consumer.idle.taking = false := rfl
@[simp] theorem Consumer.taking_loaded (c p) : (Consumer.loaded c p).taking = true := rfl
@[simp] theorem Consumer.taking_read (c p g) : (Consumer.read c p g).taking = true := rfl
@[simp] theorem Consumer.taking_reporting (g) : (Consumer.reporting g).taking = false := rfl
@[simp] theorem Consumer.latched_idle : Consumer.idle.latched = none := rfl
@[simp] theorem Consumer.latched_loaded (c p) : (Consumer.loaded c p).latched = none := rfl
@[simp] theorem Consumer.latched_read (c p g) : (Consumer.read c p g).latched = some g := rfl
@[simp] theorem Consumer.latched_reporting (g) : (Consumer.reporting g).latched = none := rfl
@[simp] theorem Consumer.owed_idle : Consumer.idle.owed = [] := rfl
@[simp] theorem Consumer.owed_loaded (c p) : (Consumer.loaded c p).owed = [] := rfl
@[simp] theorem Consumer.owed_read (c p g) : (Consumer.read c p g).owed = [] := rfl
@[simp] theorem Consumer.owed_reporting (g) : (Consumer.reporting g).owed = [classify g] := rfl

@[simp] theorem Producer.phase_idle : Producer.idle.phase = .idle := rfl
@[simp] theorem Producer.phase_loaded (c f q) : (Producer.loaded c f q).phase = .loaded := rfl
@[simp] theorem Producer.phase_written (c f q) : (Producer.written c f q).phase = .written := rfl
@[simp] theorem Consumer.phase_idle : Consumer.idle.phase = .idle := rfl
@[simp] theorem Consumer.phase_loaded (c p) : (Consumer.loaded c p).phase = .loaded := rfl
@[simp] theorem Consumer.phase_read (c p g) : (Consumer.read c p g).phase = .read := rfl
@[simp] theorem Consumer.phase_reporting (g) : (Consumer.reporting g).phase = .idle := rfl

/-- A quiescent state, said by the phases (R237). -/
theorem State.quiescent_iff {s : State} :
    s.quiescent = true ↔ s.producer.phase = .idle ∧ s.consumer.phase = .idle := by
  simp [State.quiescent]

/-- An idle producer, said by its constructor. -/
theorem Producer.isIdle_iff {p : Producer} : p.isIdle = true ↔ p = .idle := by
  cases p <;> simp [Producer.isIdle]

/-- An idle consumer, said by its constructor. -/
theorem Consumer.isIdle_iff {c : Consumer} : c.isIdle = true ↔ c = .idle := by
  cases c <;> simp [Consumer.isIdle]

/-! ### The conditions to begin -/

/-- When a push may begin (R151 (a), (c)). -/
theorem State.pushRefusal_eq_none {s : State} :
    s.pushRefusal = none ↔ s.built = true ∧ s.producer = .idle := by
  rw [← Producer.isIdle_iff]
  unfold State.pushRefusal
  cases s.built <;> cases s.producer.isIdle <;> simp

/-- When a pop may begin (R151 (b), (c), (d)). -/
theorem State.popRefusal_eq_none {s : State} :
    s.popRefusal = none ↔ s.built = true ∧ s.consumer = .idle ∧ s.consumerAdmitted = true := by
  rw [← Consumer.isIdle_iff]
  unfold State.popRefusal
  cases s.built <;> cases s.consumer.isIdle <;> cases s.consumerAdmitted <;> simp

end Sys2Proof.Machine
end

