-- ==== Sys2Proof/Laws/Memory.lean ====
section
/-! SUPPORT. The laws of the slot array: a read after a write, the canonical form, and the slot index
`pos & MASK` as a remainder (R51, R52). -/

namespace Sys2Proof.Machine

/-- After `SlotWrite(i, f)`, `SlotRead(i)` returns `f` (R52). -/
@[simp] theorem Memory.read_write_same (m : Memory) (i : Nat) (f : CanFrame) :
    Memory.read (Memory.write m i f) i = some f := by
  induction m with
  | nil => simp [Memory.write, Memory.read]
  | cons c rest ih =>
    obtain ⟨j, g⟩ := c
    unfold Memory.write
    split
    · simp [Memory.read]
    · split
      · simp [Memory.read]
      · rename_i hne
        have hji : j ≠ i := fun h => hne h.symm
        simp [Memory.read, hji, ih]

/-- A slot write changes no other slot. -/
theorem Memory.read_write_ne (m : Memory) {i k : Nat} (f : CanFrame) (h : k ≠ i) :
    Memory.read (Memory.write m i f) k = Memory.read m k := by
  have hik : i ≠ k := fun e => h e.symm
  induction m with
  | nil => simp [Memory.write, Memory.read, hik]
  | cons c rest ih =>
    obtain ⟨j, g⟩ := c
    unfold Memory.write
    split
    · simp [Memory.read, hik]
    · split
      · rename_i heq
        subst heq
        simp [Memory.read, hik]
      · by_cases hjk : j = k <;> simp [Memory.read, hjk, ih]

/-- The indexes after a write: the one written and those there before. -/
theorem Memory.mem_write {m : Memory} {i : Nat} {f : CanFrame} {c : Nat × CanFrame}
    (h : c ∈ Memory.write m i f) : c = (i, f) ∨ c ∈ m := by
  induction m with
  | nil => simpa [Memory.write] using h
  | cons d rest ih =>
    obtain ⟨j, g⟩ := d
    unfold Memory.write at h
    split at h
    · simpa using h
    · split at h
      · rcases List.mem_cons.1 h with h | h
        · exact .inl h
        · exact .inr (List.mem_cons_of_mem _ h)
      · rcases List.mem_cons.1 h with h | h
        · exact .inr (h ▸ List.mem_cons_self)
        · exact (ih h).imp id (List.mem_cons_of_mem _)

/-- A slot write keeps the canonical form. -/
theorem Memory.wf_write {m : Memory} (i : Nat) (f : CanFrame) (h : Memory.wf m) :
    Memory.wf (Memory.write m i f) := by
  induction m with
  | nil => simp [Memory.write, Memory.wf]
  | cons d rest ih =>
    obtain ⟨j, g⟩ := d
    obtain ⟨hj, hrest⟩ := List.pairwise_cons.1 h
    unfold Memory.write
    split
    · rename_i hij
      refine List.pairwise_cons.2 ⟨?_, h⟩
      intro c hc
      rcases List.mem_cons.1 hc with rfl | hc
      · exact hij
      · exact hij.trans (hj c hc)
    · split
      · rename_i heq
        subst heq
        exact List.pairwise_cons.2 ⟨hj, hrest⟩
      · rename_i hlt hne
        refine List.pairwise_cons.2 ⟨?_, ih hrest⟩
        intro c hc
        rcases Memory.mem_write hc with rfl | hc
        · show j < i
          omega
        · exact hj c hc

@[simp] theorem State.slotRead_slotWrite_same (s : State) (i : Nat) (f : CanFrame) :
    (s.slotWrite i f).slotRead i = some f := Memory.read_write_same s.slots i f

theorem State.slotRead_slotWrite_ne (s : State) {i k : Nat} (f : CanFrame) (h : k ≠ i) :
    (s.slotWrite i f).slotRead k = s.slotRead k := Memory.read_write_ne s.slots f h

/-- A slot read looks at the slot array only. -/
theorem State.slotRead_congr {s t : State} (h : s.slots = t.slots) (i : Nat) :
    s.slotRead i = t.slotRead i := by
  unfold State.slotRead
  rw [h]

/-- `pos & MASK` is `pos mod CAP` (R51). -/
theorem slotIndex_eq_mod (p : Params) (pos : Nat) : slotIndex p pos = pos % p.cap :=
  Nat.and_two_pow_sub_one_eq_mod pos p.k

theorem cap_pos (p : Params) : 0 < p.cap := Nat.two_pow_pos p.k

theorem slotIndex_lt (p : Params) (pos : Nat) : slotIndex p pos < p.cap := by
  rw [slotIndex_eq_mod]
  exact Nat.mod_lt _ (cap_pos p)

/-- `CAP` divides `2^POSW`, so reducing a count to the counter's width changes no slot index (R51). -/
theorem mod_posw_mod_cap {p : Params} (h : p.k ≤ p.posw) (n : Nat) :
    n % 2 ^ p.posw % p.cap = n % p.cap :=
  Nat.mod_mod_of_dvd n (Nat.pow_dvd_pow 2 h)

/-- The full test compares `push + 1` and `pull` modulo `CAP` (R143 (c)). -/
theorem fullAt_iff (p : Params) (push pull : Nat) :
    fullAt p push pull = true ↔ (push + 1) % p.cap = pull % p.cap := by
  simp [fullAt, slotIndex_eq_mod]

theorem emptyAt_iff (push pull : Nat) : emptyAt push pull = true ↔ push = pull := by
  simp [emptyAt]

end Sys2Proof.Machine
end

