-- ==== Sys2Proof/Laws/Steps.lean ====
section
/-! SUPPORT. What one operation, and one step, can do: the inversion lemmas every invariant is proved from,
so that no later proof unfolds `step` or splits its branches again. -/

namespace Sys2Proof.Machine

/-- Two states that differ in the lifecycle, the pending moves and the returned values only. -/
structure State.SameQueue (s t : State) : Prop where
  params : t.params = s.params
  sched : t.sched = s.sched
  pushPosition : t.pushPosition = s.pushPosition
  pullPosition : t.pullPosition = s.pullPosition
  dropCount : t.dropCount = s.dropCount
  slots : t.slots = s.slots
  producer : t.producer = s.producer
  consumer : t.consumer = s.consumer
  reported : t.reported = s.reported
  ghost : t.ghost = s.ghost

theorem State.SameQueue.refl (s : State) : s.SameQueue s :=
  ⟨rfl, rfl, rfl, rfl, rfl, rfl, rfl, rfl, rfl, rfl⟩

theorem State.SameQueue.trans {s t u : State} (h : s.SameQueue t) (h' : t.SameQueue u) :
    s.SameQueue u :=
  ⟨h'.params.trans h.params, h'.sched.trans h.sched, h'.pushPosition.trans h.pushPosition,
    h'.pullPosition.trans h.pullPosition, h'.dropCount.trans h.dropCount, h'.slots.trans h.slots,
    h'.producer.trans h.producer, h'.consumer.trans h.consumer, h'.reported.trans h.reported,
    h'.ghost.trans h.ghost⟩

/-! ### The conditions under which an operation begins -/

/-- A push may begin: the queue is built and no push is in progress. -/
theorem pushRefusal_none {s : State} (h : s.pushRefusal = none) :
    s.built = true ∧ s.producer = .idle := by
  unfold State.pushRefusal at h
  cases hb : s.built <;> cases hp : s.producer <;> simp [hb, hp, Producer.isIdle] at h ⊢

/-- A pop may begin: the queue is built, no pop is in progress, and the schedule admits the consumer. -/
theorem popRefusal_none {s : State} (h : s.popRefusal = none) :
    s.built = true ∧ s.consumer = .idle ∧ s.consumerAdmitted = true := by
  unfold State.popRefusal at h
  cases hb : s.built <;> cases hc : s.consumer <;> cases ha : s.consumerAdmitted <;>
    simp [hb, hc, ha, Consumer.isIdle] at h ⊢

/-! ### What one operation can do -/

/-- A construction that succeeds: not in use, legal sizes, the constructed state. -/
theorem execReset_next {k posw dropw : Nat} {s t : State}
    (h : execReset k posw dropw s = .next t) :
    s.lifecycle ≠ .running ∧ k ≤ posw ∧ 1 ≤ dropw ∧ t = s.construct ⟨k, posw, dropw⟩ := by
  unfold execReset at h
  cases hl : s.lifecycle <;> simp only [hl] at h
  case running => simp at h
  all_goals
    by_cases h₁ : posw < k
    · simp [h₁] at h
    · by_cases h₂ : dropw = 0
      · simp [h₁, h₂] at h
      · simp only [h₁, h₂, if_false] at h
        exact ⟨by simp, by omega, by omega, (Host.Outcome.next.inj h).symm⟩

/-- `POP` that goes on: none returned and nothing moved, or the slot's frame and one advance. -/
theorem execPop_next {s t : State} (h : execPop s = .next t) :
    s.popRefusal = none ∧
      ((s.pushPosition = s.pullPosition ∧ t = s.inUse.returnEmpty .pop) ∨
        ∃ g, s.pushPosition ≠ s.pullPosition ∧ s.slotRead s.pullSlot = some g ∧
          t = (s.inUse.advance g).returnFrame g) := by
  unfold execPop at h
  cases hr : s.popRefusal with
  | some r => simp [hr] at h
  | none =>
    simp only [hr] at h
    refine ⟨rfl, ?_⟩
    by_cases he : s.pushPosition = s.pullPosition
    · rw [if_pos (by simpa [emptyAt, State.loadPush] using he)] at h
      exact .inl ⟨he, (Host.Outcome.next.inj h).symm⟩
    · rw [if_neg (by simpa [emptyAt, State.loadPush] using he)] at h
      cases hg : s.slotRead s.pullSlot with
      | none => simp [hg] at h
      | some g =>
        simp only [hg] at h
        exact .inr ⟨g, he, rfl, (Host.Outcome.next.inj h).symm⟩

/-- `CONSUME_ITER` that goes on, likewise; the frame taken is classified and reported. -/
theorem execConsumeIter_next {s t : State} (h : execConsumeIter s = .next t) :
    s.popRefusal = none ∧
      ((s.pushPosition = s.pullPosition ∧ t = s.inUse.returnEmpty .consumeIter) ∨
        ∃ g, s.pushPosition ≠ s.pullPosition ∧ s.slotRead s.pullSlot = some g ∧
          t = (s.inUse.advance g).report (classify g)) := by
  unfold execConsumeIter at h
  cases hr : s.popRefusal with
  | some r => simp [hr] at h
  | none =>
    simp only [hr] at h
    refine ⟨rfl, ?_⟩
    by_cases he : s.pushPosition = s.pullPosition
    · rw [if_pos (by simpa [emptyAt, State.loadPush] using he)] at h
      exact .inl ⟨he, (Host.Outcome.next.inj h).symm⟩
    · rw [if_neg (by simpa [emptyAt, State.loadPush] using he)] at h
      cases hg : s.slotRead s.pullSlot with
      | none => simp [hg] at h
      | some g =>
        simp only [hg] at h
        exact .inr ⟨g, he, rfl, (Host.Outcome.next.inj h).symm⟩

/-- Everything an operation run whole can do. -/
theorem exec_cases {i : Instr} {s t : State} (h : exec i s = .next t) :
    (s.SameQueue t ∧ t.inputs = s.inputs ∧ (s.lifecycle = .running → t.lifecycle = .running)) ∨
    (∃ p, s.lifecycle ≠ .running ∧ p.Legal ∧ t = s.construct p) ∨
    (∃ c f, s.pushRefusal = none ∧ t = pushWhole c f s) ∨
    (execPop s = .next t) ∨ (execConsumeIter s = .next t) := by
  cases i
  case reset k p d =>
    obtain ⟨h₁, h₂, h₃, rfl⟩ := execReset_next h
    exact .inr (.inl ⟨_, h₁, ⟨h₂, h₃⟩, rfl⟩)
  case push f =>
    simp only [exec, execPush] at h
    cases hr : s.pushRefusal with
    | some r => simp [hr] at h
    | none =>
      simp only [hr] at h
      exact .inr (.inr (.inl ⟨.push, f, rfl, (Host.Outcome.next.inj h).symm⟩))
  case pop => exact .inr (.inr (.inr (.inl h)))
  case dropCount =>
    simp only [exec, execDropCount] at h
    split at h
    · obtain rfl := Host.Outcome.next.inj h
      exact .inl ⟨⟨rfl, rfl, rfl, rfl, rfl, rfl, rfl, rfl, rfl, rfl⟩, rfl, fun _ => rfl⟩
    · simp at h
  case notify r f =>
    simp only [exec, execNotify] at h
    cases hr : s.pushRefusal with
    | some r => simp [hr] at h
    | none =>
      simp only [hr] at h
      split at h
      · exact .inr (.inr (.inl ⟨.notify, f, rfl, (Host.Outcome.next.inj h).symm⟩))
      · obtain rfl := Host.Outcome.next.inj h
        exact .inl ⟨.refl _, rfl, id⟩
  case consumeIter => exact .inr (.inr (.inr (.inr h)))
  all_goals
    obtain rfl := Host.Outcome.next.inj h
    exact .inl ⟨⟨rfl, rfl, rfl, rfl, rfl, rfl, rfl, rfl, rfl, rfl⟩, rfl, id⟩

/-- Everything the start of an operation can do: run it, or take the first micro-step of a push or a
pop. -/
theorem startOp_cases {i : Instr} {s t : State} (h : startOp i s = .next t) :
    exec i s = .next t ∨
    (∃ c f, s.pushRefusal = none ∧ t = pushLoad c f s) ∨
    (∃ c, s.popRefusal = none ∧ t = popLoad c s) ∨ t = s := by
  cases i
  case push f =>
    simp only [startOp, beginPush] at h
    cases hr : s.pushRefusal with
    | some r => simp [hr] at h
    | none =>
      simp only [hr] at h
      exact .inr (.inl ⟨.push, f, rfl, (Host.Outcome.next.inj h).symm⟩)
  case pop =>
    simp only [startOp, beginPop] at h
    cases hr : s.popRefusal with
    | some r => simp [hr] at h
    | none =>
      simp only [hr] at h
      exact .inr (.inr (.inl ⟨.pop, rfl, (Host.Outcome.next.inj h).symm⟩))
  case consumeIter =>
    simp only [startOp, beginPop] at h
    cases hr : s.popRefusal with
    | some r => simp [hr] at h
    | none =>
      simp only [hr] at h
      exact .inr (.inr (.inl ⟨.consumeIter, rfl, (Host.Outcome.next.inj h).symm⟩))
  case notify r f =>
    simp only [startOp, beginNotify] at h
    cases hr : s.pushRefusal with
    | some r => simp [hr] at h
    | none =>
      simp only [hr] at h
      split at h
      · exact .inr (.inl ⟨.notify, f, rfl, (Host.Outcome.next.inj h).symm⟩)
      · exact .inr (.inr (.inr (Host.Outcome.next.inj h).symm))
  all_goals exact .inl h

/-! ### What one step can do -/

/-- The state with the pending moves replaced. -/
def State.withInputs (s : State) (rest : List Input) : State := { s with inputs := rest }

theorem State.sameQueue_withInputs (s : State) (rest : List Input) :
    s.SameQueue (s.withInputs rest) := ⟨rfl, rfl, rfl, rfl, rfl, rfl, rfl, rfl, rfl, rfl⟩

/-- Everything a step can do. -/
theorem step_cases {s t : State} (h : step s = .next t) :
    t = s ∨ ∃ rest,
      (∃ i, exec i (s.withInputs rest) = .next t) ∨
      (∃ i, startOp i (s.withInputs rest) = .next t) ∨
      t = producerStep (s.withInputs rest) ∨ consumerStep (s.withInputs rest) = .next t := by
  unfold step at h
  split at h
  · exact .inl (Host.Outcome.next.inj h).symm
  · split at h
    · exact .inr ⟨_, .inl ⟨_, h⟩⟩
    · simp at h
  · split at h
    · exact .inr ⟨_, .inr (.inl ⟨_, h⟩)⟩
    · simp at h
  · exact .inr ⟨_, .inr (.inr (.inl (Host.Outcome.next.inj h).symm))⟩
  · exact .inr ⟨_, .inr (.inr (.inr h))⟩
  · unfold constructFromCapacity at h
    split at h
    · rename_i c posw dropw rest _ _
      exact .inr ⟨_, .inl ⟨.reset c.log2 posw dropw, h⟩⟩
    · simp at h

/-- A consumer's micro-step that goes on, by its phase. -/
theorem consumerStep_cases {s t : State} (h : consumerStep s = .next t) :
    s.consumerAdmitted = true ∧
      ((s.consumer = .idle ∧ t = s) ∨
        (∃ c p g, s.consumer = .loaded c p ∧ s.slotRead s.pullSlot = some g ∧
          t = { s with consumer := .read c p g }) ∨
        (∃ c p g, s.consumer = .read c p g ∧ t = popAdvance c g s) ∨
        ∃ g, s.consumer = .reporting g ∧ t = reportStep g s) := by
  unfold consumerStep at h
  cases ha : s.consumerAdmitted with
  | false => simp [ha] at h
  | true =>
    refine ⟨rfl, ?_⟩
    simp only [ha, if_true] at h
    cases hc : s.consumer with
    | idle =>
      simp only [hc] at h
      exact .inl ⟨rfl, (Host.Outcome.next.inj h).symm⟩
    | loaded c p =>
      simp only [hc, popRead] at h
      cases hg : s.slotRead s.pullSlot with
      | none => simp [hg] at h
      | some g =>
        simp only [hg] at h
        exact .inr (.inl ⟨c, p, g, rfl, rfl, (Host.Outcome.next.inj h).symm⟩)
    | read c p g =>
      simp only [hc] at h
      exact .inr (.inr (.inl ⟨c, p, g, rfl, (Host.Outcome.next.inj h).symm⟩))
    | reporting g =>
      simp only [hc] at h
      exact .inr (.inr (.inr ⟨g, rfl, (Host.Outcome.next.inj h).symm⟩))

/-- A producer's micro-step, by its phase. -/
theorem producerStep_cases (s : State) :
    (s.producer = .idle ∧ producerStep s = s) ∨
    (∃ c f q, s.producer = .loaded c f q ∧ fullAt s.params s.pushPosition q = true ∧
      producerStep s = pushDrop c s) ∨
    (∃ c f q, s.producer = .loaded c f q ∧ fullAt s.params s.pushPosition q = false ∧
      producerStep s = pushWrite c f q s) ∨
    ∃ c f q, s.producer = .written c f q ∧ producerStep s = pushPublish c f s := by
  unfold producerStep
  cases hp : s.producer with
  | idle => exact .inl ⟨rfl, rfl⟩
  | loaded c f q =>
    cases hf : fullAt s.params s.pushPosition q with
    | true => exact .inr (.inl ⟨c, f, q, rfl, hf, by simp [hf]⟩)
    | false => exact .inr (.inr (.inl ⟨c, f, q, rfl, hf, by simp [hf]⟩))
  | written c f q => exact .inr (.inr (.inr ⟨c, f, q, rfl, rfl⟩))

end Sys2Proof.Machine
end

