-- ==== Sys2Proof/Laws/Invariants.lean ====
section
/-! SUPPORT. What the capacity invariant says of the counters and the slot indexes, and that both
invariants look at the queue only: not at the lifecycle, the pending moves or the returned values. -/

namespace Sys2Proof.Machine

/-- Incrementing a reduced counter is reducing the increment (R143 (a)). -/
theorem wrapInc_mod (w n : Nat) : wrapInc w (n % 2 ^ w) = (n + 1) % 2 ^ w := by
  simp [wrapInc]

/-- Two numbers less than `c` apart with equal remainders by `c` are equal. -/
theorem eq_of_mod_eq {a b c : Nat} (h : a % c = b % c) (hle : b ≤ a) (hlt : a < b + c) : a = b := by
  have hd : c ∣ a - b := (Nat.modEq_iff_dvd' hle).1 h.symm
  rcases Nat.eq_zero_or_pos (a - b) with e | e
  · omega
  · have := Nat.le_of_dvd e hd
    omega

namespace State

/-- `CAP` is at most `2^POSW` (R9). -/
theorem CapacityInv.cap_le {s : State} (h : s.CapacityInv) :
    s.params.cap ≤ 2 ^ s.params.posw := Nat.pow_le_pow_right (by simp) h.legal.1

/-- The positions are equal exactly when as many frames were taken as stored (R144, R143 (d)). -/
theorem CapacityInv.empty_iff {s : State} (h : s.CapacityInv) :
    s.pushPosition = s.pullPosition ↔ s.pushed = s.popped := by
  rw [h.push_eq, h.pull_eq]
  refine ⟨fun e => eq_of_mod_eq e h.popped_le ?_, fun e => by rw [e]⟩
  have := h.room
  have := h.cap_le
  omega

/-- The slot a push writes is `PUSHED mod CAP` (R35). -/
theorem CapacityInv.pushSlot_eq {s : State} (h : s.CapacityInv) :
    s.pushSlot = s.pushed % s.params.cap := by
  rw [State.pushSlot, slotIndex_eq_mod, h.push_eq, mod_posw_mod_cap h.legal.1]

/-- The slot a pop reads is `POPPED mod CAP` (R35). -/
theorem CapacityInv.pullSlot_eq {s : State} (h : s.CapacityInv) :
    s.pullSlot = s.popped % s.params.cap := by
  rw [State.pullSlot, slotIndex_eq_mod, h.pull_eq, mod_posw_mod_cap h.legal.1]

/-- The capacity invariant looks at the queue only. -/
theorem CapacityInv.congr {s t : State} (h : s.CapacityInv) (e : s.SameQueue t) :
    t.CapacityInv := by
  have e₁ : t.pushed = s.pushed := by simp [State.pushed, e.ghost]
  have e₂ : t.popped = s.popped := by simp [State.popped, e.ghost]
  constructor <;> simp only [e.params, e.pushPosition, e.pullPosition, e.dropCount, e₁, e₂,
    e.producer, e.consumer, e.ghost]
  exacts [h.legal, h.push_eq, h.pull_eq, h.drop_eq, h.popped_le, h.room, h.snapshot_eq,
    h.staged_room, h.taking_lt]

/-- The order invariant looks at the queue only. -/
theorem FifoInv.congr {s t : State} (h : s.FifoInv) (e : s.SameQueue t) : t.FifoInv := by
  have e₁ : t.pushed = s.pushed := by simp [State.pushed, e.ghost]
  have e₂ : t.popped = s.popped := by simp [State.popped, e.ghost]
  have e₃ : ∀ i, t.slotRead i = s.slotRead i := fun i => State.slotRead_congr e.slots i
  refine ⟨h.toCapacityInv.congr e, ?_, ?_, ?_, ?_, ?_, ?_, ?_⟩ <;>
    simp only [e.params, e.slots, e₁, e₂, e₃, e.producer, e.consumer, e.ghost, e.reported]
  exacts [h.slots_wf, h.slots_lt, h.held, h.staged_at, h.latched_eq, h.fifo, h.reports]

end State

end Sys2Proof.Machine
end

