-- ==== Sys2Proof/Laws/PerInstr.lean ====
section
/-! SUPPORT. One fact about every instruction as syntax: how many bits its word has, so that nothing is
set above them (R80, R99; log entry 8). -/

namespace Sys2Proof.Laws.EncodedWidth

/-- The number of bits an instruction's word has. -/
def width : Instr → Nat
  | .reset .. => 32
  | .push _ => 108
  | .pop => 8
  | .dropCount => 8
  | .classify _ => 108
  | .notify .. => 116
  | .consumeIter => 8
  | .rid _ => 100
  | .amd _ => 100
  | .ame _ => 100
  | .amr _ => 100
  | .eir0 _ => 100
  | .eir1 _ => 100
  | .eir2 _ => 100
  | .eir3 _ => 100
  | .ctrlReserved1000 _ => 100
  | .cidHi _ => 100
  | .cidMid _ => 100
  | .cidLo _ => 100
  | .ctrlReserved _ => 100
  | .olcbReserved0 _ => 100
  | .olcbGlobalAddressedMti _ => 100
  | .olcbDatagramComplete _ => 100
  | .olcbDatagramFirst _ => 100
  | .olcbDatagramMiddle _ => 100
  | .olcbDatagramFinal _ => 100
  | .olcbReserved6 _ => 100
  | .olcbStreamData _ => 100
  | .mtiInitializationComplete _ => 100
  | .mtiConsumerIdentifiedValid _ => 100
  | .mtiConsumerIdentifiedInvalid _ => 100
  | .mtiNone _ => 100
  | .mtiConsumerIdentifiedUnknown _ => 100
  | .mtiUndeciphered _ => 100

/-- No bit of the word is set above the instruction's own. -/
def Statement (i : Instr) : Prop := ∀ n, width i ≤ n → (encode i).2.getLsbD n = false

/-- A field sets no bit above itself. -/
theorem getLsbD_place_above {n : Nat} (v : BitVec n) (m lo i : Nat) (h : lo + n ≤ i) :
    (place m v lo).getLsbD i = false := by
  rw [getLsbD_place, BitVec.getLsbD_of_ge v _ (by omega), Bool.and_false]

/-- The word of a classification row is the frame. -/
theorem frameWord_above (f : CanFrame) (n : Nat) (h : 100 ≤ n) :
    (frameWord f).getLsbD n = false :=
  getLsbD_place_above f.pack 120 0 n (by omega)

/-- An operation's word is the selector byte and the operands. -/
theorem opWord_above (s : Byte) (args : Word) (n : Nat) (h : 8 ≤ n) :
    (opWord s args).getLsbD n = args.getLsbD n := by
  rw [opWord, BitVec.getLsbD_or, getLsbD_place_above s 120 0 n (by omega), Bool.false_or]

theorem reset (k posw dropw : Nat) : Statement (.reset k posw dropw) := fun n h => by
  have h : 32 ≤ n := h
  show (opWord _ (resetArgs k posw dropw)).getLsbD n = false
  rw [opWord_above _ _ _ (by omega), resetArgs, BitVec.getLsbD_or, BitVec.getLsbD_or,
    getLsbD_place_above _ _ _ _ (by omega), getLsbD_place_above _ _ _ _ (by omega),
    getLsbD_place_above _ _ _ _ (by omega)]
  rfl

theorem push (f : CanFrame) : Statement (.push f) := fun n h => by
  have h : 108 ≤ n := h
  show (opWord _ (place 120 f.pack 8)).getLsbD n = false
  rw [opWord_above _ _ _ (by omega), getLsbD_place_above _ _ _ _ (by omega)]

theorem pop : Statement .pop := fun n h => by
  show (opWord 2 0).getLsbD n = false
  rw [opWord_above _ _ _ h]
  exact BitVec.getLsbD_zero

theorem dropCount : Statement .dropCount := fun n h => by
  show (opWord 3 0).getLsbD n = false
  rw [opWord_above _ _ _ h]
  exact BitVec.getLsbD_zero

theorem classify (f : CanFrame) : Statement (.classify f) := fun n h => by
  have h : 108 ≤ n := h
  show (opWord _ (place 120 f.pack 8)).getLsbD n = false
  rw [opWord_above _ _ _ (by omega), getLsbD_place_above _ _ _ _ (by omega)]

theorem notify (r : Reason) (f : CanFrame) : Statement (.notify r f) := fun n h => by
  have h : 116 ≤ n := h
  show (opWord _ (place 120 r.toByte 8 ||| place 120 f.pack 16)).getLsbD n = false
  rw [opWord_above _ _ _ (by omega), BitVec.getLsbD_or, getLsbD_place_above _ _ _ _ (by omega),
    getLsbD_place_above _ _ _ _ (by omega)]
  rfl

theorem consumeIter : Statement .consumeIter := fun n h => by
  show (opWord 6 0).getLsbD n = false
  rw [opWord_above _ _ _ h]
  exact BitVec.getLsbD_zero

theorem rid (f : CanFrame) : Statement (.rid f) := frameWord_above f
theorem amd (f : CanFrame) : Statement (.amd f) := frameWord_above f
theorem ame (f : CanFrame) : Statement (.ame f) := frameWord_above f
theorem amr (f : CanFrame) : Statement (.amr f) := frameWord_above f
theorem eir0 (f : CanFrame) : Statement (.eir0 f) := frameWord_above f
theorem eir1 (f : CanFrame) : Statement (.eir1 f) := frameWord_above f
theorem eir2 (f : CanFrame) : Statement (.eir2 f) := frameWord_above f
theorem eir3 (f : CanFrame) : Statement (.eir3 f) := frameWord_above f
theorem ctrlReserved1000 (f : CanFrame) : Statement (.ctrlReserved1000 f) := frameWord_above f
theorem cidHi (f : CanFrame) : Statement (.cidHi f) := frameWord_above f
theorem cidMid (f : CanFrame) : Statement (.cidMid f) := frameWord_above f
theorem cidLo (f : CanFrame) : Statement (.cidLo f) := frameWord_above f
theorem ctrlReserved (f : CanFrame) : Statement (.ctrlReserved f) := frameWord_above f
theorem olcbReserved0 (f : CanFrame) : Statement (.olcbReserved0 f) := frameWord_above f
theorem olcbGlobalAddressedMti (f : CanFrame) : Statement (.olcbGlobalAddressedMti f) :=
  frameWord_above f
theorem olcbDatagramComplete (f : CanFrame) : Statement (.olcbDatagramComplete f) :=
  frameWord_above f
theorem olcbDatagramFirst (f : CanFrame) : Statement (.olcbDatagramFirst f) := frameWord_above f
theorem olcbDatagramMiddle (f : CanFrame) : Statement (.olcbDatagramMiddle f) := frameWord_above f
theorem olcbDatagramFinal (f : CanFrame) : Statement (.olcbDatagramFinal f) := frameWord_above f
theorem olcbReserved6 (f : CanFrame) : Statement (.olcbReserved6 f) := frameWord_above f
theorem olcbStreamData (f : CanFrame) : Statement (.olcbStreamData f) := frameWord_above f
theorem mtiInitializationComplete (f : CanFrame) : Statement (.mtiInitializationComplete f) :=
  frameWord_above f
theorem mtiConsumerIdentifiedValid (f : CanFrame) : Statement (.mtiConsumerIdentifiedValid f) :=
  frameWord_above f
theorem mtiConsumerIdentifiedInvalid (f : CanFrame) : Statement (.mtiConsumerIdentifiedInvalid f) :=
  frameWord_above f
theorem mtiNone (f : CanFrame) : Statement (.mtiNone f) := frameWord_above f
theorem mtiConsumerIdentifiedUnknown (f : CanFrame) : Statement (.mtiConsumerIdentifiedUnknown f) :=
  frameWord_above f
theorem mtiUndeciphered (f : CanFrame) : Statement (.mtiUndeciphered f) := frameWord_above f

end Sys2Proof.Laws.EncodedWidth
end

