-- ==== Sys2Proof/Tests/Slice0.lean ====
section
/-! SUPPORT. The model's own tests. Every expected word and value is copied from the spec: the section
or the rule stands beside it (95 is 95_test_vectors.md). Then one witness for each obligation that has
hypotheses: concrete states and operands that meet them, at the ends of their ranges. -/

namespace Sys2Proof.Tests

open Sys2Proof Sys2Proof.Machine

/-! ### Helpers -/

/-- No payload byte set. -/
def zeros : Payload := ⟨0, 0, 0, 0, 0, 0, 0, 0⟩

/-- A frame of `dlc` 0 with no payload byte set. -/
def frame (id : Ident) : CanFrame := ⟨id, 0, zeros⟩

/-- The frame of 95's T2: `F=0x00000100000D0102619100ABC`. -/
def initFrame : CanFrame := ⟨0x19100ABC, 6, ⟨0x02, 0x01, 0x0D, 0, 0, 0x01, 0, 0⟩⟩

/-- Four frames told apart by their identifier. -/
def f0 : CanFrame := frame 0x00700000
def f1 : CanFrame := frame 0x00701000
def f2 : CanFrame := frame 0x00702000
def f3 : CanFrame := frame 0x00703000

/-- A queue of `2^k` slots in use, both agents idle, as the rows of 95 section 2 write it down. -/
def queue (k posw dropw push pull drop : Nat) (slots : Memory) : State :=
  { State.constructed ⟨k, posw, dropw⟩ .fullInterleave with
    lifecycle := .running, pushPosition := push, pullPosition := pull, dropCount := drop
    slots := slots }

/-- The queue before anything is constructed. -/
def unbuilt : State := { queue 2 32 32 0 0 0 [] with lifecycle := .unbuilt }

/-- `K = 2`, `f0` taken, `f1` held, the agents where the arguments put them. -/
def midway (p : Producer) (c : Consumer) : State :=
  { queue 2 32 32 2 1 0 [(0, f0), (1, f1)] with
    producer := p, consumer := c, ghost := ⟨[f0, f1], [f0], 0⟩ }

/-- A push of `f2` past its load, and a pop past its load. -/
def bothLoaded : State := midway (.loaded .push f2 1) (.loaded .pop 2)

/-- A push of `f2` past its write, and a pop past its read. -/
def bothWritten : State :=
  { midway (.written .push f2 1) (.read .pop 2 f1) with slots := [(0, f0), (1, f1), (2, f2)] }

/-- A test on the state an outcome goes on with. -/
def nextHas (o : Host.Outcome State Fault Refusal) (p : State → Bool) : Bool :=
  match o with
  | .next t => p t
  | .fault _ => false
  | .refused _ => false

/-- The state an outcome goes on with. -/
def went (o : Host.Outcome State Fault Refusal) : Option State :=
  match o with
  | .next t => some t
  | .fault _ => none
  | .refused _ => none

/-- The refusal an outcome stops with. -/
def refusal (o : Host.Outcome State Fault Refusal) : Option Refusal :=
  match o with
  | .next _ => none
  | .fault _ => none
  | .refused r => some r

/-- The reading of a word, as data that can be compared. -/
def reads (sp : Space) (w : Word) : Option Instr :=
  match decode sp w with
  | .ok i => some i
  | .error _ => none

/-- The flat record of the report an operation hands back. -/
def flatOf (o : Host.Outcome State Fault Refusal) : Option (BitVec 126) :=
  match o with
  | .next t => t.returns.classify.map flatRecord
  | .fault _ => none
  | .refused _ => none

/-! ### WellFormed refuses -/

theorem test_reset_k_over_a_byte : (Instr.reset 256 32 32).wellFormed = false := by decide
theorem test_reset_posw_over_a_byte : (Instr.reset 2 256 32).wellFormed = false := by decide
theorem test_reset_dropw_zero : (Instr.reset 2 32 0).wellFormed = false := by decide
theorem test_reset_dropw_over_a_byte : (Instr.reset 2 32 257).wellFormed = false := by decide
theorem test_notify_other_is_not_rx : (Instr.notify (.other 0) f0).wellFormed = false := by decide
theorem test_notify_over_a_byte : (Instr.notify (.other 256) f0).wellFormed = false := by decide

/-- Each named control row with the identifier of another one (R174 to R181). -/
theorem test_illformed_named_rows :
    [Instr.rid f1, .amd f0, .ame f3, .amr f2, .eir0 (frame 0x00711000), .eir1 (frame 0x00710000),
      .eir2 (frame 0x00713000), .eir3 (frame 0x08713000)].map Instr.wellFormed =
      [false, false, false, false, false, false, false, false] := by decide

/-- The neighbours of R182 and R183: `content` 0x1001, 0x1000, 0x0700, and an OpenLCB frame. -/
theorem test_illformed_check_id_and_reserved :
    [Instr.ctrlReserved1000 (frame 0x01001000), .cidHi (frame 0x02000000), .cidHi (frame 0x0C000000),
      .cidMid (frame 0x04000000), .cidMid (frame 0x01000000), .cidLo (frame 0x01000000),
      .cidLo (frame 0x02000000), .ctrlReserved f0, .ctrlReserved (frame 0x01000000)].map
        Instr.wellFormed =
      [false, false, false, false, false, false, false, false, false] := by decide

/-- Each format row with a neighbouring format, or with a control frame (R185, R186, R195 to R200). -/
theorem test_illformed_formats :
    [Instr.olcbReserved0 (frame 0x00000000), .olcbGlobalAddressedMti (frame 0x08000000),
      .olcbDatagramComplete (frame 0x0B000000), .olcbDatagramFirst (frame 0x0A000000),
      .olcbDatagramMiddle (frame 0x0D000000), .olcbDatagramFinal (frame 0x0C000000),
      .olcbReserved6 (frame 0x08000000), .olcbStreamData (frame 0x07000000)].map Instr.wellFormed =
      [false, false, false, false, false, false, false, false] := by decide

/-- Each MTI row with an identifier of 95's 3.3 that another row takes (T9, T11 to T14, T2). -/
theorem test_illformed_mti :
    [Instr.mtiInitializationComplete (frame 0x09500ABC),
      .mtiConsumerIdentifiedValid (frame 0x194C5123),
      .mtiConsumerIdentifiedInvalid (frame 0x094C0000), .mtiNone (frame 0x194C7123),
      .mtiConsumerIdentifiedUnknown (frame 0x194C6123), .mtiUndeciphered (frame 0x19100ABC),
      .mtiUndeciphered (frame 0x194C6123)].map Instr.wellFormed =
      [false, false, false, false, false, false, false] := by decide

/-! ### Decoding: selectors of R99, frames of R80, rows of R174 to R200, one word each -/

/-- `K = 2`, `POSW = 32`, `DROPW = 32` in bytes 1 to 3 (log entry 8). -/
theorem test_decode_reset : reads .op 0x1F200200 = some (.reset 2 32 32) := by decide
theorem test_decode_push :
    reads .op 0x00000100000D0102619100ABC01 = some (.push initFrame) := by decide
theorem test_decode_pop : reads .op 0x2 = some .pop := by decide
theorem test_decode_dropcount : reads .op 0x3 = some .dropCount := by decide
theorem test_decode_classify :
    reads .op 0x00000100000D0102619100ABC04 = some (.classify initFrame) := by decide
theorem test_decode_notify_rx :
    reads .op 0x00000100000D0102619100ABC0005 = some (.notify .rx initFrame) := by decide
theorem test_decode_notify_other :
    reads .op 0x00000100000D0102619100ABC0305 = some (.notify (.other 3) initFrame) := by decide
theorem test_decode_consume_iter : reads .op 0x6 = some .consumeIter := by decide
theorem test_decode_selector_7 : decode .op 0x7 = .error (.unknownSelector 7) := by decide
theorem test_decode_reserved_bits :
    [reads .op 0x102, reads .op 0x0A, reads .op 0x100000000,
      reads .frame 0x10000000000000000000000000] = [none, none, none, none] := by decide

theorem test_decode_rid : reads .frame 0x10700ABC = some (.rid (frame 0x10700ABC)) := by decide
theorem test_decode_amd : reads .frame 0x00701000 = some (.amd (frame 0x00701000)) := by decide
theorem test_decode_ame : reads .frame 0x00702123 = some (.ame (frame 0x00702123)) := by decide
theorem test_decode_amr : reads .frame 0x00703FFF = some (.amr (frame 0x00703FFF)) := by decide
theorem test_decode_eir0 : reads .frame 0x00710001 = some (.eir0 (frame 0x00710001)) := by decide
theorem test_decode_eir1 : reads .frame 0x00711002 = some (.eir1 (frame 0x00711002)) := by decide
theorem test_decode_eir2 : reads .frame 0x00712003 = some (.eir2 (frame 0x00712003)) := by decide
theorem test_decode_eir3 : reads .frame 0x00713004 = some (.eir3 (frame 0x00713004)) := by decide
theorem test_decode_ctrl_reserved_1000 :
    reads .frame 0x01000000 = some (.ctrlReserved1000 (frame 0x01000000)) := by decide
theorem test_decode_cid_hi :
    reads .frame 0x07123456 = some (.cidHi (frame 0x07123456)) := by decide
theorem test_decode_cid_mid :
    reads .frame 0x02000000 = some (.cidMid (frame 0x02000000)) := by decide
theorem test_decode_cid_lo : reads .frame 0x01001000 = some (.cidLo (frame 0x01001000)) := by decide
theorem test_decode_ctrl_reserved :
    reads .frame 0x00000102 = some (.ctrlReserved (frame 0x00000102)) := by decide
/-- 95's S6: `F=0x0000050000000000608000802`. -/
theorem test_decode_olcb_reserved0 : reads .frame 0x0000050000000000608000802 =
    some (.olcbReserved0 ⟨0x08000802, 6, ⟨0, 0, 0, 0, 0, 0x05, 0, 0⟩⟩) := by decide
theorem test_decode_olcb_global_addressed_mti : reads .frame 0x00000100000D0102619100ABC =
    some (.olcbGlobalAddressedMti initFrame) := by decide
theorem test_decode_olcb_datagram_complete :
    reads .frame 0x1A123456 = some (.olcbDatagramComplete (frame 0x1A123456)) := by decide
theorem test_decode_olcb_datagram_first :
    reads .frame 0x1B000000 = some (.olcbDatagramFirst (frame 0x1B000000)) := by decide
theorem test_decode_olcb_datagram_middle :
    reads .frame 0x1C000000 = some (.olcbDatagramMiddle (frame 0x1C000000)) := by decide
theorem test_decode_olcb_datagram_final :
    reads .frame 0x1D000000 = some (.olcbDatagramFinal (frame 0x1D000000)) := by decide
theorem test_decode_olcb_reserved6 :
    reads .frame 0x0E000000 = some (.olcbReserved6 (frame 0x0E000000)) := by decide
theorem test_decode_olcb_stream_data :
    reads .frame 0x1F000FFF = some (.olcbStreamData (frame 0x1F000FFF)) := by decide
theorem test_decode_mti_initialization_complete : reads .mti 0x00000100000D0102619100ABC =
    some (.mtiInitializationComplete initFrame) := by decide
/-- 95's T10: `F=0x03030000000001018194C4123`. -/
theorem test_decode_mti_valid : reads .mti 0x03030000000001018194C4123 =
    some (.mtiConsumerIdentifiedValid
      ⟨0x194C4123, 8, ⟨0x01, 0x01, 0, 0, 0, 0, 0x03, 0x03⟩⟩) := by decide
theorem test_decode_mti_invalid :
    reads .mti 0x194C5123 = some (.mtiConsumerIdentifiedInvalid (frame 0x194C5123)) := by decide
theorem test_decode_mti_none : reads .mti 0x194C6123 = some (.mtiNone (frame 0x194C6123)) := by decide
theorem test_decode_mti_unknown :
    reads .mti 0x194C7123 = some (.mtiConsumerIdentifiedUnknown (frame 0x194C7123)) := by decide
theorem test_decode_mti_undeciphered :
    reads .mti 0x195B4123 = some (.mtiUndeciphered (frame 0x195B4123)) := by decide
theorem test_decode_mti_of_format_0 : decode .mti 0x08000802 = .error .notFormatOne := by decide

/-! ### The queue, one operation each -/

/-- 95 section 2.1 row 8: full at `4/1`. -/
theorem test_push_full :
    nextHas (exec (.push f3) (queue 2 32 32 4 1 0 [])) (fun t =>
      t.returns.push == some false && t.dropCount == 1 && t.pushPosition == 4) = true := by decide
/-- 95 section 2.3 row 1: at `3/3` with `POSW = 2` the slot is 3 and the counter wraps to 0. -/
theorem test_push_wraps :
    nextHas (exec (.push f3) (queue 2 2 32 3 3 0 [(0, f0)])) (fun t =>
      t.returns.push == some true && t.pushPosition == 0 && t.slots == [(0, f0), (3, f3)] &&
        t.occ == 1) = true := by decide
/-- 95 section 2.1 row 10. -/
theorem test_pop_takes :
    nextHas (exec .pop (queue 2 32 32 4 1 1 [(0, f0), (1, f1), (2, f2), (3, f3)])) (fun t =>
      t.returns.pop == some (some f1) && t.pullPosition == 2) = true := by decide
/-- 95 section 2.1 row 4. -/
theorem test_pop_empty :
    nextHas (exec .pop (queue 2 32 32 1 1 0 [(0, f0)])) (fun t =>
      t.returns.pop == some none && t.pullPosition == 1) = true := by decide
/-- 95 section 2.6: the fourth drop wraps a counter of two bits. -/
theorem test_drop_counter_wraps :
    nextHas (exec (.push f3) (queue 0 32 2 0 0 3 [])) (fun t =>
      t.returns.push == some false && t.dropCount == 0) = true := by decide
/-- 95 section 2.1 row 17. -/
theorem test_dropcount :
    nextHas (exec .dropCount (queue 2 32 32 5 5 2 [])) (fun t =>
      t.returns.dropCount == some 2 && t.dropCount == 2) = true := by decide
/-- R280, R281. -/
theorem test_reset_empties :
    nextHas (exec (.reset 0 0 1) unbuilt) (fun t => t.params == ⟨0, 0, 1⟩ && t.empty) = true := by
  decide
/-- R283. -/
theorem test_second_reset :
    refusal (exec (.reset 2 32 32) (queue 2 32 32 0 0 0 [])) = some .secondReset := by decide
/-- R230's example: on a full queue `dropCount` goes up by 1, nothing else changes. -/
theorem test_notify_full :
    went (exec (.notify .rx f3) (queue 2 32 32 4 1 0 [])) =
      some { queue 2 32 32 4 1 1 [] with ghost := ⟨[], [], 1⟩ } := by decide
/-- R230: another reason. -/
theorem test_notify_other :
    went (exec (.notify (.other 3) f3) (queue 2 32 32 4 1 0 [])) = some (queue 2 32 32 4 1 0 []) := by
  decide
/-- R232's example: one frame of `id = 0x00701000`. -/
theorem test_consume_iter :
    nextHas (exec .consumeIter (queue 2 32 32 1 0 0 [(0, f1)])) (fun t =>
      t.returns.consumeIter == some (some (.control ⟨0x0701, .amd, 0, 0⟩)) &&
        t.reported == [.control ⟨0x0701, .amd, 0, 0⟩] && t.empty) = true := by decide
/-- R282. -/
theorem test_capacity_six :
    refusal (constructFromCapacity 6 32 32 unbuilt) = some (.notPowerOfTwo 6) := by decide
theorem test_capacity_eight :
    nextHas (constructFromCapacity 8 32 32 unbuilt) (fun t => t.params.k == 3) = true := by decide

/-! ### The micro-steps -/

/-- 95 section 5.1 step 3: a pop inside a push sees the queue empty. -/
theorem test_pop_inside_push :
    nextHas (startOp .pop { queue 2 32 32 0 0 0 [(0, f0)] with producer := .written .push f0 0 })
      (fun t => t.returns.pop == some none && t.consumer == .idle) = true := by decide
/-- 95 section 5.2 step 8: a drop decided on a stale snapshot. -/
theorem test_stale_drop :
    (producerStep { queue 1 32 32 1 1 0 [(0, f0)] with producer := .loaded .push f1 0 }).dropCount =
      1 := by decide
/-- 95 section 5.3 step 14. -/
theorem test_pop_advance :
    nextHas (consumerStep { queue 2 32 32 3 0 1 [(0, f0)] with consumer := .read .pop 3 f0 })
      (fun t => t.pullPosition == 1 && t.returns.pop == some (some f0)) = true := by decide
/-- 95 section 5.3 step 11. -/
theorem test_pop_read :
    nextHas (consumerStep { queue 2 32 32 3 0 0 [(0, f0)] with consumer := .loaded .pop 3 })
      (fun t => t.consumer == .read .pop 3 f0 && t.pullPosition == 0) = true := by decide

/-- R141 and R237: the advance of a `CONSUME_ITER` leaves both phases `IDLE`, so the state is quiescent; the
phase `READ` before it is not. -/
theorem test_quiescent_after_advance :
    (midway .idle (.read .consumeIter 2 f1)).quiescent = false ∧
    nextHas (consumerStep (midway .idle (.read .consumeIter 2 f1))) (fun t => t.quiescent) = true := by
  decide

/-! ### The decoder: the `D=` columns of 95 -/

/-- 95 T1 (the same `D=` with bit 28 set, T2), by `CLASSIFY`. -/
theorem test_classify_init :
    flatOf (exec (.classify initFrame) unbuilt) = some 0x1010086800000EAF0080400800000001 := by decide
/-- 95 section 3.1, the frame with `id = 0xF0701ABC` and a full payload. -/
theorem test_classify_high_bits :
    flatOf (exec (.classify ⟨0xF0701ABC, 8, ⟨1, 2, 3, 4, 5, 6, 7, 8⟩⟩) unbuilt) =
      some 0x0000000000000000000000055E020E02 := by decide
theorem test_rid :
    flatOf (exec (.rid (frame 0x10700ABC)) unbuilt) = some 0x55E010E00 := by decide
theorem test_amd : flatOf (exec (.amd (frame 0x00701000)) unbuilt) = some 0x20E02 := by decide
theorem test_ame : flatOf (exec (.ame (frame 0x00702001)) unbuilt) = some 0x830E04 := by decide
theorem test_amr : flatOf (exec (.amr (frame 0x00703002)) unbuilt) = some 0x1040E06 := by decide
theorem test_eir0 : flatOf (exec (.eir0 (frame 0x00710003)) unbuilt) = some 0x1850E20 := by decide
theorem test_eir1 : flatOf (exec (.eir1 (frame 0x00711004)) unbuilt) = some 0x2060E22 := by decide
theorem test_eir2 : flatOf (exec (.eir2 (frame 0x00712005)) unbuilt) = some 0x2870E24 := by decide
theorem test_eir3 : flatOf (exec (.eir3 (frame 0x00713006)) unbuilt) = some 0x3080E26 := by decide
theorem test_ctrl_reserved_1000 :
    flatOf (exec (.ctrlReserved1000 (frame 0x01000000)) unbuilt) = some 0x102000 := by decide
theorem test_cid_hi : flatOf (exec (.cidHi (frame 0x04700123)) unbuilt) = some 0x91C98E00 := by decide
/-- `content = 0x2000`, `frameSeqNum = 2`: `0x2000 << 1 | 9 << 16 | 2 << 20` by R93 and R182. -/
theorem test_cid_mid : flatOf (exec (.cidMid (frame 0x02000000)) unbuilt) = some 0x294000 := by decide
theorem test_cid_lo : flatOf (exec (.cidLo (frame 0x01001000)) unbuilt) = some 0x192002 := by decide
/-- 95 S5. -/
theorem test_ctrl_reserved :
    flatOf (exec (.ctrlReserved (frame 0x00000102)) unbuilt) = some 0x81000000 := by decide
/-- 95 S6. -/
theorem test_olcb_reserved0 :
    flatOf (exec (.olcbReserved0 (frame 0x08000802)) unbuilt) = some 0x1 := by decide
/-- 95 T21. -/
theorem test_olcb_global_addressed_mti :
    flatOf (exec (.olcbGlobalAddressedMti (frame 0x195B4123)) unbuilt) =
      some 0x0800000000000048CAD56D0800000001 := by decide
/-- 95 S8. -/
theorem test_olcb_datagram_complete :
    flatOf (exec (.olcbDatagramComplete (frame 0x0A000000)) unbuilt) = some 0x1000000001 := by decide
theorem test_olcb_datagram_first :
    flatOf (exec (.olcbDatagramFirst (frame 0x0B000001)) unbuilt) = some 0x1800000001 := by decide
theorem test_olcb_datagram_middle :
    flatOf (exec (.olcbDatagramMiddle (frame 0x0C000002)) unbuilt) = some 0x2000000001 := by decide
theorem test_olcb_datagram_final :
    flatOf (exec (.olcbDatagramFinal (frame 0x0D000003)) unbuilt) = some 0x2800000001 := by decide
theorem test_olcb_reserved6 :
    flatOf (exec (.olcbReserved6 (frame 0x0E000000)) unbuilt) = some 0x3000000001 := by decide
theorem test_olcb_stream_data :
    flatOf (exec (.olcbStreamData (frame 0x0F000FFF)) unbuilt) = some 0x3800000001 := by decide
/-- 95 T6. -/
theorem test_mti_initialization_complete :
    flatOf (exec (.mtiInitializationComplete
      ⟨0x0911FABC, 6, ⟨0xFF, 0xFF, 0xFF, 0xFF, 0xFF, 0xFF, 0, 0⟩⟩) unbuilt) =
      some 0x17FFFFFFFFFFFEAF3E8047C800000001 := by decide
/-- 95 T10. -/
theorem test_mti_valid :
    flatOf (exec (.mtiConsumerIdentifiedValid
      ⟨0x194C4123, 8, ⟨0x01, 0x01, 0, 0, 0, 0, 0x03, 0x03⟩⟩) unbuilt) =
      some 0x1800000000000048C865310800000001 := by decide
/-- T11 by the columns of R93: `mti = 0x4C5`, `messageModifier = 1`, class 4. -/
theorem test_mti_invalid :
    went (exec (.mtiConsumerIdentifiedInvalid (frame 0x194C5123)) unbuilt) =
      some (unbuilt.returnClass (.openLcb ⟨1, .globalAddressedMti,
        some ⟨0x4C5, 1, 0x06, 0, 0, 1, 1, 0x123, 0, 0, .consumerIdentifiedInvalid⟩⟩)) := by decide
/-- 95 T12. -/
theorem test_mti_none : flatOf (exec (.mtiNone (frame 0x194C6123)) unbuilt) =
    some 0x3000000000000048E865318800000001 := by decide
/-- 95 T13. -/
theorem test_mti_unknown :
    went (exec (.mtiConsumerIdentifiedUnknown (frame 0x194C7123)) unbuilt) =
      some (unbuilt.returnClass (.openLcb ⟨1, .globalAddressedMti,
        some ⟨0x4C7, 1, 0x06, 0, 0, 1, 3, 0x123, 0, 0, .consumerIdentifiedUnknown⟩⟩)) := by decide
/-- 95 T23. -/
theorem test_mti_undeciphered :
    flatOf (exec (.mtiUndeciphered ⟨0x09FFFFFF, 6, zeros⟩) unbuilt) =
      some 0x08000000000007FFFFFFFFC800000001 := by decide

/-! ### From reset -/

/-- A step from reset runs the operation the word names; one word of each kind of row. -/
theorem test_step_from_reset :
    [(8, 0), (8, 1), (8, 2), (8, 3), (8, 4), (8, 5), (8, 6), (32, 0x00700000), (32, 0x08000000),
      (32, 0x09100000)].all (fun r =>
        nextHas (step (State.reset.withFetchWord r.1 r.2)) (fun _ => true)) = true := by decide
/-- With nothing placed, reset stays as it is (R237). -/
theorem test_reset_waits : step State.reset = .next State.reset := rfl

/-! ### Witnesses: the hypotheses of each obligation can be met -/

theorem witness_StepRunsTheDecodedOperation :
    ({ unbuilt with inputs := [.run .op 0x2, .producer] }).inputs = .run .op 0x2 :: [.producer] ∧
    ({ unbuilt with inputs := [.start .op 0x6] }).inputs = .start .op 0x6 :: [] ∧
    reads .op 0x2 = some .pop ∧ reads .op 0x6 = some .consumeIter ∧
    ({ unbuilt with inputs := [.run .op 0x7] }).inputs = .run .op 0x7 :: [] ∧
    decode .op 0x7 = .error (.unknownSelector 7) ∧
    ({ unbuilt with inputs := [.producer] }).inputs = .producer :: [] ∧
    ({ unbuilt with inputs := [.consumer] }).inputs = .consumer :: [] ∧
    ({ unbuilt with inputs := [.construct 8 32 32] }).inputs = .construct 8 32 32 :: [] ∧
    unbuilt.inputs = [] ∧
    (∀ f, Instr.dropCount ≠ .push f) ∧ Instr.dropCount ≠ .pop ∧ (∀ r f, Instr.dropCount ≠ .notify r f) ∧
    Instr.dropCount ≠ .consumeIter := by
  refine ⟨by decide, by decide, by decide, by decide, by decide, by decide, by decide, by decide,
    by decide, by decide, ?_, by decide, ?_, by decide⟩ <;> simp

theorem witness_FetchWordRunsItsRow :
    decodeTableWord 8 6 = some .consumeIter ∧
    decodeTableWord 32 0x0FFFFFFF = some (.olcbStreamData (frame 0x0FFFFFFF)) := by decide

/-- Both ends of `RESET`'s bytes, and a frame of all ones. -/
theorem witness_EncodeThenDecode :
    (Instr.reset 0 0 1).wellFormed = true ∧ (Instr.reset 255 255 256).wellFormed = true ∧
    (Instr.notify (.other 255) ⟨0xFFFFFFFF, 15, ⟨255, 255, 255, 255, 255, 255, 255, 255⟩⟩).wellFormed =
      true ∧ (Instr.ctrlReserved (frame 0x00FFF000)).wellFormed = true := by decide

theorem witness_DecodeThenEncode :
    reads .op 0xFF000000 = some (.reset 0 0 256) ∧
    reads .frame 0x0A000000 = some (.olcbDatagramComplete (frame 0x0A000000)) ∧
    reads .mti 0x09CC0000 = some (.mtiUndeciphered (frame 0x09CC0000)) := by decide

theorem witness_RowsOfEqualPriorityAreDisjoint : ctrlRows ∈ [ctrlRows, olcbRows, mtiRows] :=
  .head _

/-- A row of the first classification, and a row of the second. -/
theorem witness_TableRowsAgreeWithClassify :
    decodeFrame f0 = .ok (.rid f0) ∧ decodeMti initFrame = .ok (.mtiInitializationComplete initFrame) :=
  ⟨rfl, rfl⟩

/-- The three clauses: the largest control identifier, formats 0 and 2 on either side of 1, format 1. -/
theorem witness_ClassifyReturnsTheDecodedFrame :
    (0x07FFFFFF : Ident).getLsbD 27 = false ∧
    ((0x08FFFFFF : Ident).getLsbD 27 = true ∧ (0x08FFFFFF : Ident).extractLsb' 24 3 ≠ 1) ∧
    ((0x0A000000 : Ident).getLsbD 27 = true ∧ (0x0A000000 : Ident).extractLsb' 24 3 ≠ 1) ∧
    ((0x09FFFFFF : Ident).getLsbD 27 = true ∧ (0x09FFFFFF : Ident).extractLsb' 24 3 = 1) := by decide

/-- `dlc` 6, and 5 and 7 on either side; formats 0 and 2 on either side of 1. -/
theorem witness_NodeIdentifierIsBigEndian :
    (initFrame.id &&& 0x0F000000 = 0x09000000 ∧ initFrame.dlc = 6) ∧
    ({ initFrame with dlc := 5 }.dlc ≠ 6 ∧ { initFrame with dlc := 7 }.dlc ≠ 6) ∧
    (0x08FFFFFF : Ident) &&& 0x0F000000 ≠ 0x09000000 ∧
    (0x0A000000 : Ident) &&& 0x0F000000 ≠ 0x09000000 := by decide

/-- Pairs that differ in every bit the clause lets differ. -/
theorem witness_DecoderIgnoresUnusedBits :
    (f0.id.getLsbD 27 = false ∧ f0.id.extractLsb' 0 28 = (0xF0700000 : Ident).extractLsb' 0 28) ∧
    ((0x0A000000 : Ident).getLsbD 27 = true ∧ (0x0A000000 : Ident).extractLsb' 24 3 ≠ 1 ∧
      (0x0A000000 : Ident).extractLsb' 24 4 = (0xFAFFFFFF : Ident).extractLsb' 24 4) ∧
    ((0x09100ABC : Ident) &&& 0x0F000000 = 0x09000000 ∧
      (0x09100ABC : Ident).extractLsb' 0 28 = (0xF9100ABC : Ident).extractLsb' 0 28 ∧
      (5 : BitVec 4) ≠ 6 ∧ (7 : BitVec 4) ≠ 6) ∧
    (let g : CanFrame := { initFrame with
        id := 0xE9100ABC, payload := { initFrame.payload with b6 := 1, b7 := 2 } };
      initFrame.id &&& 0x0F000000 = 0x09000000 ∧
      initFrame.id.extractLsb' 0 28 = g.id.extractLsb' 0 28 ∧ initFrame.dlc = 6 ∧ g.dlc = 6 ∧
      initFrame.payload.b0 = g.payload.b0 ∧ initFrame.payload.b5 = g.payload.b5 ∧ g ≠ initFrame) := by
  decide

/-- The first and the last row of the list, at the ends of the alias. -/
theorem witness_NamedControlRows :
    (0x00700000 : Ident) &&& 0x0FFFF000 = 0x00700000 ∧
    (0xF0701FFF : Ident) &&& 0x0FFFF000 = 0x00701000 ∧
    (0x00702000 : Ident) &&& 0x0FFFF000 = 0x00702000 ∧
    (0x00703FFF : Ident) &&& 0x0FFFF000 = 0x00703000 ∧
    (0x00710000 : Ident) &&& 0x0FFFF000 = 0x00710000 ∧
    (0x00711FFF : Ident) &&& 0x0FFFF000 = 0x00711000 ∧
    (0x00712000 : Ident) &&& 0x0FFFF000 = 0x00712000 ∧
    (0xF0713FFF : Ident) &&& 0x0FFFF000 = 0x00713000 := by decide

/-- The smallest and the largest `CID`, and each row at both ends of its range. -/
theorem witness_CheckIdRows :
    ((0x01001000 : Ident).getLsbD 27 = false ∧ 0x1000 < ((0x01001000 : Ident).extractLsb' 12 15).toNat) ∧
    ((0x07FFFFFF : Ident).getLsbD 27 = false ∧ 0x1000 < ((0x07FFFFFF : Ident).extractLsb' 12 15).toNat) ∧
    (Instr.cidHi (frame 0x04000000)).wellFormed = true ∧
    (Instr.cidHi (frame 0x07FFFFFF)).wellFormed = true ∧
    (Instr.cidMid (frame 0x02000000)).wellFormed = true ∧
    (Instr.cidMid (frame 0x03FFFFFF)).wellFormed = true ∧
    (Instr.cidLo (frame 0x01001000)).wellFormed = true ∧
    (Instr.cidLo (frame 0x01FFFFFF)).wellFormed = true := by decide

/-- The ends of the three ranges of R183, and each row. -/
theorem witness_ReservedControlRows :
    ([0x00000000, 0x006FF000, 0x00704000, 0x0070F000, 0x00714000, 0x01000000] : List Ident).all
      (fun id => let c := (id.extractLsb' 12 15).toNat;
        !id.getLsbD 27 && decide (c ≤ 0x06FF ∨ (0x0704 ≤ c ∧ c ≤ 0x070F) ∨
          (0x0714 ≤ c ∧ c ≤ 0x1000))) = true ∧
    (Instr.ctrlReserved (frame 0x00000000)).wellFormed = true ∧
    (Instr.ctrlReserved (frame 0x00FFFFFF)).wellFormed = true ∧
    (Instr.ctrlReserved1000 (frame 0x01000FFF)).wellFormed = true := by decide

theorem witness_PlainOpenLcbRows :
    (0x08000000 : Ident) &&& 0x0F000000 = 0x08000000 ∧
    (0x1AFFFFFF : Ident) &&& 0x0F000000 = 0x0A000000 ∧
    (0x0B000001 : Ident) &&& 0x0F000000 = 0x0B000000 ∧
    (0x0C000002 : Ident) &&& 0x0F000000 = 0x0C000000 ∧
    (0x0D000003 : Ident) &&& 0x0F000000 = 0x0D000000 ∧
    (0x0E000000 : Ident) &&& 0x0F000000 = 0x0E000000 ∧
    (0xFFFFFFFF : Ident) &&& 0x0F000000 = 0x0F000000 := by decide

theorem witness_GlobalAddressedMtiRow :
    (0x09000000 : Ident) &&& 0x0F000000 = 0x09000000 ∧
    (0xF9FFFFFF : Ident) &&& 0x0F000000 = 0x09000000 := by decide

/-- One format-1 identifier a clause, with its priority, type and modifier; four for the default. -/
theorem witness_MtiRows :
    ([0x0911FFFF, 0x094DC000, 0x194C5123, 0x194C6123, 0x194C7123, 0x098C0000, 0x09CC0000, 0x090C0000,
        0x09500ABC] : List Ident).map (fun id => ((id &&& 0x0F000000).toNat,
          (id.extractLsb' 22 2).toNat, (id.extractLsb' 17 5).toNat, (id.extractLsb' 12 2).toNat)) =
      [(0x09000000, 0, 0x08, 3), (0x09000000, 1, 0x06, 0), (0x09000000, 1, 0x06, 1),
        (0x09000000, 1, 0x06, 2), (0x09000000, 1, 0x06, 3), (0x09000000, 2, 0x06, 0),
        (0x09000000, 3, 0x06, 0), (0x09000000, 0, 0x06, 0), (0x09000000, 1, 0x08, 0)] := by decide

/-- Full and not full at `4/1`, `3/1`, and not full across the wrap of a two-bit counter. -/
theorem witness_PushStoresOrDrops :
    (let s := queue 2 32 32 4 1 0 [];
      s.built = true ∧ s.producer = .idle ∧
        (s.pushPosition + 1) &&& s.params.mask = s.pullPosition &&& s.params.mask) ∧
    (let s := queue 2 32 32 3 1 0 [];
      s.built = true ∧ s.producer = .idle ∧
        (s.pushPosition + 1) &&& s.params.mask ≠ s.pullPosition &&& s.params.mask) ∧
    (let s := queue 2 2 32 3 3 0 [];
      (s.pushPosition + 1) &&& s.params.mask ≠ s.pullPosition &&& s.params.mask) := by decide

theorem witness_PopTakesTheSlotAtPullPosition :
    (let s := queue 2 32 32 1 1 0 [];
      s.built = true ∧ s.consumer = .idle ∧ s.consumerAdmitted = true ∧
        s.pushPosition = s.pullPosition) ∧
    (let s := queue 2 2 32 0 3 0 [(3, f3)];
      s.built = true ∧ s.consumer = .idle ∧ s.consumerAdmitted = true ∧
        s.pushPosition ≠ s.pullPosition ∧
        s.slotRead (s.pullPosition &&& s.params.mask) = some f3) := by decide

theorem witness_UnwrittenSlotFaults :
    let s := queue 2 32 32 1 0 0 [];
    s.built = true ∧ s.consumer = .idle ∧ s.consumerAdmitted = true ∧
      s.pushPosition ≠ s.pullPosition ∧ s.slotRead (s.pullPosition &&& s.params.mask) = none := by
  decide

/-- In the middle of a push and of a pop. -/
theorem witness_DropCountIsReadAtAnyTime : bothWritten.built = true := by decide

theorem witness_NotifyIsPushWithoutResult :
    (queue 2 32 32 4 1 0 []).built = true ∧ (queue 2 32 32 4 1 0 []).producer = .idle ∧
    Reason.other 255 ≠ Config.reasonRx := by decide

theorem witness_ConsumeIterReportsOneFrame :
    (let s := queue 2 32 32 1 1 0 [];
      s.built = true ∧ s.consumer = .idle ∧ s.consumerAdmitted = true ∧
        s.pushPosition = s.pullPosition) ∧
    (let s := queue 2 32 32 1 0 0 [(0, f1)];
      s.pushPosition ≠ s.pullPosition ∧
        s.slotRead (s.pullPosition &&& s.params.mask) = some f1) := by decide

/-- A push that stores, and a notification that drops. -/
theorem witness_PushFrameOfSlots :
    (went (exec (.push f2) (queue 2 32 32 3 1 0 []))).isSome = true ∧
    (queue 2 32 32 3 1 0 []).full = false ∧
    (went (exec (.notify .rx f2) (queue 2 32 32 4 1 0 []))).isSome = true ∧
    (queue 2 32 32 4 1 0 []).full = true := by decide

theorem witness_WriteOwnership :
    (went (exec .dropCount bothLoaded)).isSome = true ∧
    (went (exec .pop (queue 2 32 32 1 0 0 [(0, f1)]))).isSome = true ∧
    (went (consumerStep bothWritten)).isSome = true := by decide

/-- `K = POSW` and `DROPW = 1`, the smallest sizes; before any construction and on a fresh queue. -/
theorem witness_ResetConstructsAnEmptyQueue :
    unbuilt.lifecycle ≠ .running ∧ (State.constructed ⟨2, 2, 1⟩ .preemptOnly).lifecycle ≠ .running ∧
    0 ≤ 0 ∧ 1 ≤ 1 := by decide

/-- `POSW = K - 1`; `DROPW = 0`; a queue in use; capacities 0 and 3. -/
theorem witness_ConstructionRefusals :
    unbuilt.lifecycle ≠ .running ∧ 1 < 2 ∧ 2 ≤ 2 ∧
    (queue 2 32 32 0 0 0 []).lifecycle = .running ∧ (¬∃ k, 0 = 2 ^ k) ∧ (¬∃ k, 3 = 2 ^ k) := by
  refine ⟨by decide, by decide, by decide, by decide, ?_, ?_⟩
  · rintro ⟨k, h⟩
    exact absurd h (Nat.two_pow_pos k).ne
  · rintro ⟨k, h⟩
    cases k with
    | zero => simp at h
    | succ n => omega

theorem witness_ProducerMicroSteps :
    ((queue 2 32 32 0 0 0 []).built = true ∧ (queue 2 32 32 0 0 0 []).producer = .idle) ∧
    Reason.other 0 ≠ Config.reasonRx ∧
    (let s := { queue 1 32 32 1 1 0 [(0, f0)] with producer := .loaded .push f1 0 };
      s.producer = .loaded .push f1 0 ∧
        (s.pushPosition + 1) &&& s.params.mask = 0 &&& s.params.mask) ∧
    (bothLoaded.producer = .loaded .push f2 1 ∧
      (bothLoaded.pushPosition + 1) &&& bothLoaded.params.mask ≠ 1 &&& bothLoaded.params.mask) ∧
    bothWritten.producer = .written .push f2 1 ∧
    ({ bothWritten with producer := .written .notify f2 1 }).producer = .written .notify f2 1 := by
  decide

theorem witness_ConsumerMicroSteps :
    (let s := queue 2 32 32 1 1 0 [];
      s.consumerAdmitted = true ∧ s.built = true ∧ s.consumer = .idle ∧
        s.pushPosition = s.pullPosition) ∧
    (queue 2 32 32 0 3 0 []).pushPosition ≠ (queue 2 32 32 0 3 0 []).pullPosition ∧
    (bothLoaded.consumerAdmitted = true ∧ bothLoaded.consumer = .loaded .pop 2 ∧
      bothLoaded.slotRead (bothLoaded.pullPosition &&& bothLoaded.params.mask) = some f1) ∧
    bothWritten.consumerAdmitted = true ∧ bothWritten.consumer = .read .pop 2 f1 := by decide

theorem witness_ConsumeIterMicroSteps :
    (let s := queue 2 32 32 1 1 0 [];
      s.consumerAdmitted = true ∧ s.built = true ∧ s.consumer = .idle ∧
        s.pushPosition = s.pullPosition) ∧
    (queue 2 32 32 0 3 0 []).pushPosition ≠ (queue 2 32 32 0 3 0 []).pullPosition ∧
    (let s := midway .idle (.loaded .consumeIter 2);
      s.consumer = .loaded .consumeIter 2 ∧
        s.slotRead (s.pullPosition &&& s.params.mask) = some f1) ∧
    (midway .idle (.read .consumeIter 2 f1)).consumer = .read .consumeIter 2 f1 ∧
    (midway .idle (.reporting f1)).consumer = .reporting f1 := by decide

theorem witness_WholePushIsItsMicroSteps :
    (went (exec (.push f2) (midway .idle .idle))).isSome = true ∧
    refusal (exec (.notify .rx f2) bothLoaded) = some .nestedPush := by decide

theorem witness_WholePopIsItsMicroSteps :
    (went (startOp .pop (midway .idle .idle))).isSome = true ∧
    (went (startOp .consumeIter (queue 2 32 32 0 0 0 []))).isSome = true ∧
    refusal (startOp .pop bothLoaded) = some .nestedPop := by decide

theorem witness_StepKeepsTheSlotArrayCanonical :
    Memory.wf bothLoaded.slots ∧
    (went (step { bothLoaded with inputs := [.producer] })).isSome = true := by decide

theorem witness_SlotIndexFollowsTheWrap :
    (⟨0, 0, 1⟩ : Params).k ≤ (⟨0, 0, 1⟩ : Params).posw ∧
    (⟨2, 2, 32⟩ : Params).k ≤ (⟨2, 2, 32⟩ : Params).posw := by decide

/-- The shortest burst and one of `CAP + 1` frames (R148). -/
theorem witness_BurstKeepsTheFirstFrames :
    (went (exec (.reset 0 0 1) unbuilt)).isSome = true ∧ 2 ^ 0 ≤ ([] : List CanFrame).length + 1 ∧
    (went (exec (.reset 1 1 1) { unbuilt with sched := .preemptOnly })).isSome = true ∧
    2 ^ 1 ≤ [f0, f1, f2].length + 1 := by decide

theorem witness_StepWritesOnlyThePushSlot :
    bothLoaded.lifecycle = .running ∧
    (went (step { bothLoaded with inputs := [.producer] })).isSome = true := by decide

theorem witness_PreemptOnlyKeepsTheConsumerOut :
    (let s := { midway (.loaded .push f2 1) .idle with sched := .preemptOnly };
      s.sched = .preemptOnly ∧ s.producer ≠ .idle ∧ s.built = true ∧ s.consumer = .idle) ∧
    (let s := { midway .idle .idle with sched := .preemptOnly };
      s.sched = .preemptOnly ∧ s.producer = .idle) := by decide

theorem witness_UseOutsideTheDisciplineIsRefused :
    bothLoaded.built = true ∧ bothLoaded.producer ≠ .idle ∧ bothLoaded.consumer ≠ .idle ∧
    unbuilt.lifecycle = .unbuilt := by decide

/-! ### States that meet the invariants -/

/-- A queue in the middle of its life meets the order invariant, whatever the agents hold, if what
they hold fits. -/
theorem midway_inv (p : Producer) (c : Consumer) (hq : ∀ q, p.snapshot = some q → q = 1)
    (hf : p.staged = none) (hg : ∀ g, c.latched = some g → g = f1) (ho : c.owed = []) :
    (midway p c).FifoInv where
  legal := (by decide : (2 : Nat) ≤ 32 ∧ (1 : Nat) ≤ 32)
  push_eq := rfl
  pull_eq := rfl
  drop_eq := rfl
  popped_le := (by decide : 1 ≤ 2)
  room := (by decide : 2 + 1 ≤ 1 + 2 ^ 2)
  snapshot_eq := fun q h => ⟨1, hq q h, (by decide : 1 ≤ 1), (by decide : 2 + 1 ≤ 1 + 2 ^ 2)⟩
  staged_room := fun h => absurd hf h
  taking_lt := fun _ => (by decide : 1 + 1 ≤ 2)
  slots_wf := (by decide : Memory.wf [(0, f0), (1, f1)])
  slots_lt := (by decide : ∀ c ∈ [(0, f0), (1, f1)], c.1 < 2 ^ 2)
  held := by
    intro n h₁ h₂
    have h₁ : 1 ≤ n := h₁
    have h₂ : n < 2 := h₂
    obtain rfl : n = 1 := by omega
    rfl
  staged_at := fun f h => by rw [show (midway p c).producer.staged = none from hf] at h; cases h
  latched_eq := fun g h => by rw [hg g h]; rfl
  fifo := ⟨[f1], rfl⟩
  reports := by
    rw [show (midway p c).consumer.owed = [] from ho]
    exact List.nil_sublist _

/-- Both agents idle, one frame held. -/
theorem held_inv : (midway .idle .idle).FifoInv :=
  midway_inv _ _ (by simp [Producer.snapshot]) rfl (by simp [Consumer.latched]) rfl

/-- A push and a pop past their loads at the same time. -/
theorem bothLoaded_inv : bothLoaded.FifoInv :=
  midway_inv _ _ (by simp [Producer.snapshot]) rfl (by simp [Consumer.latched]) rfl

/-- A queue of `K = 0`, and more generally any fresh queue in use, meets the order invariant. -/
theorem fresh_inv (k posw : Nat) (h : k ≤ posw) : (queue k posw 32 0 0 0 []).FifoInv where
  legal := ⟨h, (by decide : (1 : Nat) ≤ 32)⟩
  push_eq := by simp [queue, State.pushed, State.constructed]
  pull_eq := by simp [queue, State.popped, State.constructed]
  drop_eq := rfl
  popped_le := Nat.le_refl _
  room := by
    have := Nat.two_pow_pos k
    simp [queue, State.pushed, State.popped, State.constructed, Params.cap]
    omega
  snapshot_eq := fun _ h => by cases h
  staged_room := fun h => absurd rfl h
  taking_lt := fun h => by cases h
  slots_wf := List.Pairwise.nil
  slots_lt := fun _ h => by cases h
  held := fun n _ h => absurd h (Nat.not_lt_zero n)
  staged_at := fun _ h => by cases h
  latched_eq := fun _ h => by cases h
  fifo := List.nil_prefix
  reports := List.nil_sublist _

theorem witness_ResetMeetsTheInvariants : (went (exec (.reset 0 0 1) unbuilt)).isSome = true := by
  decide

theorem witness_StepKeepsTheCapacityInvariant :
    bothLoaded.CapacityInv ∧ (went (step bothLoaded)).isSome = true :=
  ⟨bothLoaded_inv.toCapacityInv, by decide⟩

theorem witness_StepKeepsTheFifoInvariant :
    bothLoaded.FifoInv ∧ (went (step bothLoaded)).isSome = true := ⟨bothLoaded_inv, by decide⟩

theorem witness_OperationsAreWaitFree :
    bothLoaded.FifoInv ∧ bothLoaded.consumerAdmitted = true ∧ bothLoaded.consumer = .loaded .pop 2 :=
  ⟨bothLoaded_inv, by decide⟩

/-- A push and a pop past their loads, with two slots of each agent to come, in two orders. -/
theorem witness_QuiescenceIsReached :
    (let s := { bothLoaded with inputs := [.consumer, .producer, .producer, .consumer] };
      s.FifoInv ∧ s.sched = .fullInterleave ∧ (∀ m ∈ s.inputs, m = .producer ∨ m = .consumer) ∧
        2 ≤ s.inputs.count .producer ∧ 2 ≤ s.inputs.count .consumer) ∧
    (let s := { bothLoaded with inputs := [.producer, .producer, .consumer, .consumer] };
      s.FifoInv ∧ s.inputs = [.producer, .producer, .consumer, .consumer]) :=
  ⟨⟨bothLoaded_inv.congr ⟨rfl, rfl, rfl, rfl, rfl, rfl, rfl, rfl, rfl, rfl⟩, by decide⟩,
    bothLoaded_inv.congr ⟨rfl, rfl, rfl, rfl, rfl, rfl, rfl, rfl, rfl, rfl⟩, rfl⟩

theorem witness_SlotSafety :
    bothLoaded.FifoInv ∧ bothLoaded.producer = .loaded .push f2 1 ∧
    fullAt bothLoaded.params bothLoaded.pushPosition 1 = false ∧ bothLoaded.popped ≤ 1 ∧
    1 < bothLoaded.pushed ∧ bothLoaded.consumer = .loaded .pop 2 := ⟨bothLoaded_inv, by decide⟩

/-- One frame held, and none. -/
theorem witness_PopReturnsTheOldestFrame :
    (let s := midway .idle .idle;
      s.FifoInv ∧ s.built = true ∧ s.consumer = .idle ∧ s.consumerAdmitted = true ∧
        s.popped < s.pushed) ∧
    (let s := queue 2 2 32 0 0 0 [];
      s.FifoInv ∧ s.built = true ∧ s.consumer = .idle ∧ s.consumerAdmitted = true ∧
        s.popped = s.pushed) :=
  ⟨⟨held_inv, by decide⟩, fresh_inv 2 2 (by decide), by decide⟩

theorem witness_OccupancyIsPushedMinusPopped :
    (midway .idle .idle).CapacityInv ∧ (queue 0 0 32 0 0 0 []).CapacityInv :=
  ⟨held_inv.toCapacityInv, (fresh_inv 0 0 (by decide)).toCapacityInv⟩

theorem witness_OneSlotHoldsNoFrame :
    let s := queue 0 0 32 0 0 0 [];
    s.CapacityInv ∧ s.params.k = 0 ∧ s.built = true ∧ s.producer = .idle ∧ s.consumer = .idle ∧
      s.consumerAdmitted = true := ⟨(fresh_inv 0 0 (by decide)).toCapacityInv, by decide⟩

/-- `f0`, `f1` and `f2` taken and `f3` held, on counters of any width: 0 or 4 for `pushPosition`. -/
def wrapped (posw : Nat) : State :=
  { queue 2 posw 32 (4 % 2 ^ posw) (3 % 2 ^ posw) 0 [(0, f0), (1, f1), (2, f2), (3, f3)] with
    ghost := ⟨[f0, f1, f2, f3], [f0, f1, f2], 0⟩ }

theorem wrapped_inv (posw : Nat) (h : 2 ≤ posw) : (wrapped posw).CapacityInv where
  legal := ⟨h, (by decide : (1 : Nat) ≤ 32)⟩
  push_eq := rfl
  pull_eq := rfl
  drop_eq := rfl
  popped_le := (by decide : 3 ≤ 4)
  room := (by decide : 4 + 1 ≤ 3 + 2 ^ 2)
  snapshot_eq := fun _ h => by cases h
  staged_room := fun h => absurd rfl h
  taking_lt := fun h => by cases h

/-- Widths 2 and 32, past the wrap of the narrow one. -/
theorem witness_CounterWidthIsNotObservable : WidthAlike (wrapped 2) (wrapped 32) where
  left := wrapped_inv 2 (by decide)
  right := wrapped_inv 32 (by decide)
  k_eq := rfl
  dropw_eq := rfl
  sched_eq := rfl
  lifecycle_eq := rfl
  drop_eq := rfl
  slots_eq := rfl
  producer_alike := trivial
  consumer_alike := trivial
  inputs_eq := rfl
  reported_eq := rfl
  returns_eq := rfl
  ghost_eq := rfl

end Sys2Proof.Tests
end

section
/-! PROOFS. What refuses the consumer: the schedule's admission of a consumer step, and the operations
that begin with a pop when the pop may not begin. -/

namespace Sys2Proof.Machine

/-! ### The admission of the consumer -/

/-- An idle producer keeps no consumer out, whatever the schedule (R11). -/
theorem State.consumerAdmitted_of_producer_idle {s : State} (h : s.producer = .idle) :
    s.consumerAdmitted = true := by
  cases hs : s.sched <;> simp [State.consumerAdmitted, hs, h, Producer.isIdle]

/-- When `PREEMPT_ONLY` admits the consumer: outside a push (R11, R151 (d)). -/
theorem State.consumerAdmitted_iff_of_preemptOnly {s : State} (h : s.sched = .preemptOnly) :
    s.consumerAdmitted = true ↔ s.producer = .idle := by
  simp [State.consumerAdmitted, h, Producer.isIdle_iff]

/-- The slot of a consumer that is not admitted is refused, whatever the consumer holds. -/
theorem consumerStep_of_not_admitted {s : State} (h : s.consumerAdmitted = false) :
    consumerStep s = .refused .consumerInsidePush := by
  simp [consumerStep, h]

/-! ### A pop that may not begin -/

/-- With a queue and no pop in progress, only the schedule can keep a pop from beginning. -/
theorem State.popRefusal_of_not_admitted {s : State} (hb : s.built = true) (hc : s.consumer = .idle)
    (ha : s.consumerAdmitted = false) : s.popRefusal = some .consumerInsidePush := by
  simp [State.popRefusal, hb, hc, ha, Consumer.isIdle]

/-- An operation that begins with a pop is refused, run whole or started, for the reason the pop is. -/
theorem popOperations_refused {s : State} {r : Refusal} (h : s.popRefusal = some r) :
    exec .pop s = .refused r ∧ exec .consumeIter s = .refused r ∧
      startOp .pop s = .refused r ∧ startOp .consumeIter s = .refused r := by
  simp [exec, execPop, execConsumeIter, startOp, beginPop, h]

/-! ### The obligation -/

/-- Settles O52: under `PREEMPT_ONLY` the consumer is admitted exactly while the producer is idle, and
what is not admitted is refused by that name. -/
theorem preemptOnlyKeepsTheConsumerOut : Obligations.PreemptOnlyKeepsTheConsumerOut := by
  intro s hs
  refine ⟨fun hp => ?_, State.consumerAdmitted_of_producer_idle⟩
  have ha : s.consumerAdmitted = false :=
    Bool.eq_false_iff.2 (mt (State.consumerAdmitted_iff_of_preemptOnly hs).1 hp)
  exact ⟨consumerStep_of_not_admitted ha,
    fun hb hc => popOperations_refused (State.popRefusal_of_not_admitted hb hc ha)⟩

end Sys2Proof.Machine
end

section
/-! PROOFS. Who writes what: the two agents' parts of the state (R33), what each operation and each
micro-step leaves of them, and what one step can do to the slot array. -/

namespace Sys2Proof.Machine

/-! ### The agents' parts of the state -/

/-- Two states that agree on what the producer alone writes (R33) and on its local state (R28). -/
structure State.SameProducerPart (s t : State) : Prop where
  pushPosition : t.pushPosition = s.pushPosition
  slots : t.slots = s.slots
  dropCount : t.dropCount = s.dropCount
  producer : t.producer = s.producer

/-- Two states that agree on what the consumer alone writes (R33) and on its local state (R29). -/
structure State.SameConsumerPart (s t : State) : Prop where
  pullPosition : t.pullPosition = s.pullPosition
  consumer : t.consumer = s.consumer

theorem State.SameQueue.sameProducerPart {s t : State} (h : s.SameQueue t) :
    s.SameProducerPart t := ⟨h.pushPosition, h.slots, h.dropCount, h.producer⟩

theorem State.SameQueue.sameConsumerPart {s t : State} (h : s.SameQueue t) :
    s.SameConsumerPart t := ⟨h.pullPosition, h.consumer⟩

theorem State.sameQueue_returnClass (s : State) (d : DecodedFrame) :
    s.SameQueue (s.returnClass d) := ⟨rfl, rfl, rfl, rfl, rfl, rfl, rfl, rfl, rfl, rfl⟩

/-! ### What the producer leaves of the consumer's part -/

/-- A whole push drops or stores (R131). -/
theorem pushWhole_cases (c : PushCaller) (f : CanFrame) (s : State) :
    pushWhole c f s = s.inUse.dropFrame.returnPush c false ∨
      pushWhole c f s = ((s.inUse.slotWrite s.pushSlot f).publish f).returnPush c true :=
  ite_eq_or_eq ..

theorem pushWhole_sameConsumerPart (c : PushCaller) (f : CanFrame) (s : State) :
    s.SameConsumerPart (pushWhole c f s) := by
  rcases pushWhole_cases c f s with e | e <;> rw [e] <;> constructor <;> simp

theorem producerStep_sameConsumerPart (s : State) : s.SameConsumerPart (producerStep s) := by
  rcases producerStep_cases s with
    ⟨_, e⟩ | ⟨c, f, q, _, _, e⟩ | ⟨c, f, q, _, _, e⟩ | ⟨c, f, q, _, e⟩ <;> rw [e]
  · exact ⟨rfl, rfl⟩
  · constructor <;> simp [pushDrop]
  · constructor <;> simp [pushWrite]
  · constructor <;> simp [pushPublish]

/-! ### What the consumer leaves of the producer's part -/

theorem popLoad_sameProducerPart (c : PopCaller) (s : State) : s.SameProducerPart (popLoad c s) := by
  unfold popLoad
  split <;> constructor <;> simp

theorem execPop_sameProducerPart {s t : State} (h : execPop s = .next t) : s.SameProducerPart t := by
  obtain ⟨-, ⟨-, rfl⟩ | ⟨g, -, -, rfl⟩⟩ := execPop_next h <;> constructor <;> simp

theorem execConsumeIter_sameProducerPart {s t : State} (h : execConsumeIter s = .next t) :
    s.SameProducerPart t := by
  obtain ⟨-, ⟨-, rfl⟩ | ⟨g, -, -, rfl⟩⟩ := execConsumeIter_next h <;> constructor <;> simp

theorem popAdvance_sameProducerPart (c : PopCaller) (g : CanFrame) (s : State) :
    s.SameProducerPart (popAdvance c g s) := by
  cases c <;> exact ⟨rfl, rfl, rfl, rfl⟩

theorem consumerStep_sameProducerPart {s t : State} (h : consumerStep s = .next t) :
    s.SameProducerPart t := by
  obtain ⟨-, ⟨-, rfl⟩ | ⟨c, p, g, -, -, rfl⟩ | ⟨c, p, g, -, rfl⟩ | ⟨g, -, rfl⟩⟩ :=
    consumerStep_cases h
  · exact ⟨rfl, rfl, rfl, rfl⟩
  · exact ⟨rfl, rfl, rfl, rfl⟩
  · exact popAdvance_sameProducerPart c g s
  · exact ⟨rfl, rfl, rfl, rfl⟩

/-! ### Write ownership -/

theorem execPush_next {f : CanFrame} {s t : State} (h : execPush f s = .next t) :
    s.pushRefusal = none ∧ t = pushWhole .push f s := by
  unfold execPush at h
  split at h
  · cases h
  · next hr => exact ⟨hr, (Host.Outcome.next.inj h).symm⟩

theorem execNotify_next {r : Reason} {f : CanFrame} {s t : State} (h : execNotify r f s = .next t) :
    s.pushRefusal = none ∧
      ((r = Config.reasonRx ∧ t = pushWhole .notify f s) ∨ (r ≠ Config.reasonRx ∧ t = s)) := by
  unfold execNotify at h
  split at h
  · cases h
  · next hr =>
    refine ⟨hr, ?_⟩
    split at h
    · next he => exact .inl ⟨he, (Host.Outcome.next.inj h).symm⟩
    · next he => exact .inr ⟨he, (Host.Outcome.next.inj h).symm⟩

/-- Which operation does what, when it goes on: `exec_cases` with the instruction kept. -/
theorem exec_cases_by_operation {i : Instr} {s t : State} (h : exec i s = .next t) :
    (∃ k posw dropw, i = .reset k posw dropw) ∨
    (∃ c f, (i = .push f ∨ i = .notify Config.reasonRx f) ∧ t = pushWhole c f s) ∨
    (i = .pop ∧ execPop s = .next t) ∨ (i = .consumeIter ∧ execConsumeIter s = .next t) ∨
    s.SameQueue t := by
  cases i
  case reset k posw dropw => exact .inl ⟨k, posw, dropw, rfl⟩
  case push f => exact .inr (.inl ⟨.push, f, .inl rfl, (execPush_next h).2⟩)
  case notify r f =>
    obtain ⟨-, ⟨rfl, ht⟩ | ⟨-, rfl⟩⟩ := execNotify_next h
    · exact .inr (.inl ⟨.notify, f, .inr rfl, ht⟩)
    · exact .inr (.inr (.inr (.inr (.refl _))))
  case pop => exact .inr (.inr (.inl ⟨rfl, h⟩))
  case consumeIter => exact .inr (.inr (.inr (.inl ⟨rfl, h⟩)))
  case dropCount =>
    simp only [exec, execDropCount] at h
    split at h
    · obtain rfl := Host.Outcome.next.inj h
      exact .inr (.inr (.inr (.inr ⟨rfl, rfl, rfl, rfl, rfl, rfl, rfl, rfl, rfl, rfl⟩)))
    · cases h
  all_goals
    obtain rfl := Host.Outcome.next.inj h
    exact .inr (.inr (.inr (.inr (s.sameQueue_returnClass _))))

/-- Settles O30: a push leaves the consumer's part and a pop the producer's, run whole or by
micro-steps; what is neither and no construction leaves the whole queue. -/
theorem writeOwnership : Obligations.WriteOwnership := by
  refine ⟨fun i s t h => ?_, fun s => ?_, fun s t h => ?_⟩
  · rcases exec_cases_by_operation h with
      hr | ⟨c, f, hi, rfl⟩ | ⟨rfl, hp⟩ | ⟨rfl, hc⟩ | hq
    · exact .inl hr
    · exact .inr ⟨.inl ⟨f, hi⟩, .inr (.inr (pushWhole_sameConsumerPart c f s).pullPosition)⟩
    · have hs := execPop_sameProducerPart hp
      exact .inr ⟨.inr ⟨hs.pushPosition, hs.slots, hs.dropCount⟩, .inl rfl⟩
    · have hs := execConsumeIter_sameProducerPart hc
      exact .inr ⟨.inr ⟨hs.pushPosition, hs.slots, hs.dropCount⟩, .inr (.inl rfl)⟩
    · exact .inr ⟨.inr ⟨hq.pushPosition, hq.slots, hq.dropCount⟩, .inr (.inr hq.pullPosition)⟩
  · have hs := producerStep_sameConsumerPart s
    exact ⟨hs.pullPosition, hs.consumer⟩
  · have hs := consumerStep_sameProducerPart h
    exact ⟨hs.pushPosition, hs.slots, hs.dropCount, hs.producer⟩

/-! ### The slot array -/

/-- All a move can do to the slot array: nothing, one write at `pushPosition & MASK` (R153), or, before
the queue is in use, the construction of an empty one (R281). -/
def State.SlotEffect (s t : State) : Prop :=
  t.slots = s.slots ∨ (∃ f, t.slots = Memory.write s.slots s.pushSlot f) ∨
    (s.lifecycle ≠ .running ∧ t.slots = [])

theorem State.SameProducerPart.slotEffect {s t : State} (h : s.SameProducerPart t) :
    s.SlotEffect t := .inl h.slots

theorem pushWhole_slotEffect (c : PushCaller) (f : CanFrame) (s : State) :
    s.SlotEffect (pushWhole c f s) := by
  rcases pushWhole_cases c f s with e | e <;> rw [e]
  · exact .inl (by simp)
  · exact .inr (.inl ⟨f, by simp⟩)

theorem producerStep_slotEffect (s : State) : s.SlotEffect (producerStep s) := by
  rcases producerStep_cases s with
    ⟨_, e⟩ | ⟨c, f, q, _, _, e⟩ | ⟨c, f, q, _, _, e⟩ | ⟨c, f, q, _, e⟩ <;> rw [e]
  · exact .inl rfl
  · exact .inl (by simp [pushDrop])
  · exact .inr (.inl ⟨f, rfl⟩)
  · exact .inl (by simp [pushPublish])

theorem exec_slotEffect {i : Instr} {s t : State} (h : exec i s = .next t) : s.SlotEffect t := by
  rcases exec_cases h with ⟨hq, -⟩ | ⟨p, hl, -, rfl⟩ | ⟨c, f, -, rfl⟩ | hp | hc
  · exact hq.sameProducerPart.slotEffect
  · exact .inr (.inr ⟨hl, rfl⟩)
  · exact pushWhole_slotEffect c f s
  · exact (execPop_sameProducerPart hp).slotEffect
  · exact (execConsumeIter_sameProducerPart hc).slotEffect

theorem startOp_slotEffect {i : Instr} {s t : State} (h : startOp i s = .next t) :
    s.SlotEffect t := by
  rcases startOp_cases h with he | ⟨c, f, -, rfl⟩ | ⟨c, -, rfl⟩ | rfl
  · exact exec_slotEffect he
  · exact .inl rfl
  · exact (popLoad_sameProducerPart c s).slotEffect
  · exact .inl rfl

theorem step_slotEffect {s t : State} (h : step s = .next t) : s.SlotEffect t := by
  rcases step_cases h with rfl | ⟨rest, ⟨i, he⟩ | ⟨i, ho⟩ | rfl | hc⟩
  · exact .inl rfl
  · exact exec_slotEffect (s := s.withInputs rest) he
  · exact startOp_slotEffect (s := s.withInputs rest) ho
  · exact producerStep_slotEffect (s.withInputs rest)
  · exact (consumerStep_sameProducerPart hc).slotEffect

/-- Settles O43: each of the effects a step can have on the slot array keeps its canonical form. -/
theorem stepKeepsTheSlotArrayCanonical : Obligations.StepKeepsTheSlotArrayCanonical := by
  intro s t hwf h
  rcases step_slotEffect h with e | ⟨f, e⟩ | ⟨-, e⟩ <;> rw [e]
  · exact hwf
  · exact Memory.wf_write s.pushSlot f hwf
  · exact List.Pairwise.nil

end Sys2Proof.Machine
end

section
/-! PROOFS. The derived predicates (R30, R31) under the capacity invariant: occupancy, full and empty
said by the ghost counts `PUSHED` and `POPPED`. -/

namespace Sys2Proof.Machine

/-- A difference less than `n` is read off remainders by `n`. -/
theorem mod_add_sub_mod {p a b n : Nat} (hp : p % n = a % n) (hle : b ≤ a) (hlt : a < b + n) :
    (p + (n - b % n)) % n = a - b := by
  have hb : b % n < n := Nat.mod_lt b (by omega)
  have hl : p + (n - b % n) + b % n = p + n := by omega
  have hr : a - b + b = a := by omega
  have hmod : p + (n - b % n) ≡ a - b [MOD n] := by
    apply Nat.ModEq.add_right_cancel (Nat.mod_modEq b n)
    rw [hl, hr]
    simpa [Nat.ModEq] using hp
  rw [hmod, Nat.mod_eq_of_lt (by omega)]

namespace State

/-- `OCC` is `PUSHED - POPPED` (R30, R35). -/
theorem CapacityInv.occ_eq {s : State} (h : s.CapacityInv) : s.occ = s.pushed - s.popped := by
  have hroom := h.room
  have hcap := h.cap_le
  unfold State.occ
  rw [h.pull_eq, Nat.mod_mod]
  exact mod_add_sub_mod (by rw [h.push_eq, Nat.mod_mod]) h.popped_le (by omega)

/-- `OCC` is the difference of the positions masked to `K` bits (R30). -/
theorem CapacityInv.occ_eq_masked {s : State} (h : s.CapacityInv) :
    s.occ = slotIndex s.params (s.pushPosition + s.params.cap - s.pullSlot) := by
  have hroom := h.room
  have hlt : s.popped % s.params.cap < s.params.cap := Nat.mod_lt _ (cap_pos s.params)
  have hpush : s.pushPosition % s.params.cap = s.pushed % s.params.cap := by
    rw [h.push_eq, mod_posw_mod_cap h.legal.1]
  rw [h.occ_eq, h.pullSlot_eq, slotIndex_eq_mod, Nat.add_sub_assoc hlt.le]
  exact (mod_add_sub_mod hpush h.popped_le (by omega)).symm

/-- `OCC` is at most `CAP - 1` (R31). -/
theorem CapacityInv.occ_lt_cap {s : State} (h : s.CapacityInv) : s.occ + 1 ≤ s.params.cap := by
  have hroom := h.room
  have hle := h.popped_le
  rw [h.occ_eq]
  omega

/-- `FULL` is `CAP - 1` frames held (R30). -/
theorem CapacityInv.full_iff {s : State} (h : s.CapacityInv) :
    s.full = true ↔ s.pushed + 1 = s.popped + s.params.cap := by
  have hpush : (s.pushPosition + 1) % s.params.cap = (s.pushed + 1) % s.params.cap := by
    rw [h.push_eq, Nat.add_mod, mod_posw_mod_cap h.legal.1, ← Nat.add_mod]
  have hpull : s.pullPosition % s.params.cap = (s.popped + s.params.cap) % s.params.cap := by
    rw [h.pull_eq, mod_posw_mod_cap h.legal.1, Nat.add_mod_right]
  have hle := h.popped_le
  rw [State.full, fullAt_iff, hpush, hpull]
  exact ⟨fun e => (eq_of_mod_eq e.symm h.room (by omega)).symm, fun e => by rw [e]⟩

/-- The positions select one slot exactly when no frame is held (R31). -/
theorem CapacityInv.pushSlot_eq_pullSlot_iff {s : State} (h : s.CapacityInv) :
    s.pushSlot = s.pullSlot ↔ s.pushed = s.popped := by
  have hroom := h.room
  rw [h.pushSlot_eq, h.pullSlot_eq]
  exact ⟨fun e => eq_of_mod_eq e h.popped_le (by omega), fun e => by rw [e]⟩

end State

/-- Settles O46: each predicate is its comparison of `PUSHED` and `POPPED`. -/
theorem occupancyIsPushedMinusPopped : Obligations.OccupancyIsPushedMinusPopped := by
  intro s h
  have hle := h.popped_le
  have hempty : s.empty = true ↔ s.pushed = s.popped := by
    rw [State.empty, emptyAt_iff, h.empty_iff]
  refine ⟨h.occ_eq, h.occ_lt_cap, h.occ_eq_masked, ?_, ?_, ?_⟩
  · rw [h.full_iff, h.occ_eq]
    omega
  · rw [hempty, h.occ_eq]
    omega
  · exact hempty.trans h.pushSlot_eq_pullSlot_iff.symm

end Sys2Proof.Machine
end

section
/-! PROOFS. The step by the first pending move, the read of an unwritten slot, and the reset state. -/

namespace Sys2Proof.Machine

/-! ### The step, by the first pending move -/

theorem step_run {s : State} {rest : List Input} {sp : Space} {w : Word} {i : Instr}
    (hs : s.inputs = .run sp w :: rest) (hd : decode sp w = .ok i) :
    step s = exec i (s.withInputs rest) := by
  simp [step, hs, hd, State.withInputs]

theorem step_start {s : State} {rest : List Input} {sp : Space} {w : Word} {i : Instr}
    (hs : s.inputs = .start sp w :: rest) (hd : decode sp w = .ok i) :
    step s = startOp i (s.withInputs rest) := by
  simp [step, hs, hd, State.withInputs]

theorem step_undecodable {s : State} {rest : List Input} {sp : Space} {w : Word} {e : DecodeError}
    (hs : s.inputs = .run sp w :: rest ∨ s.inputs = .start sp w :: rest)
    (hd : decode sp w = .error e) : step s = .refused (.undecodable e) := by
  rcases hs with hs | hs <;> simp [step, hs, hd]

theorem step_producer {s : State} {rest : List Input} (hs : s.inputs = .producer :: rest) :
    step s = .next (producerStep (s.withInputs rest)) := by
  simp [step, hs, State.withInputs]

theorem step_consumer {s : State} {rest : List Input} (hs : s.inputs = .consumer :: rest) :
    step s = consumerStep (s.withInputs rest) := by
  simp [step, hs, State.withInputs]

theorem step_construct {s : State} {rest : List Input} {c posw dropw : Nat}
    (hs : s.inputs = .construct c posw dropw :: rest) :
    step s = constructFromCapacity c posw dropw (s.withInputs rest) := by
  simp [step, hs, State.withInputs]

theorem step_of_inputs_nil {s : State} (hs : s.inputs = []) : step s = .next s := by
  simp [step, hs]

/-- An operation of one micro-step is started by running it whole (R142, R170, R280). -/
theorem startOp_eq_exec {i : Instr} {s : State} (hpush : ∀ f, i ≠ .push f) (hpop : i ≠ .pop)
    (hnotify : ∀ r f, i ≠ .notify r f) (hiter : i ≠ .consumeIter) : startOp i s = exec i s := by
  cases i
  case push f => exact absurd rfl (hpush f)
  case pop => exact absurd rfl hpop
  case notify r f => exact absurd rfl (hnotify r f)
  case consumeIter => exact absurd rfl hiter
  all_goals rfl

/-- Settles O1, a lemma for each shape of the first pending move. -/
theorem stepRunsTheDecodedOperation : Obligations.StepRunsTheDecodedOperation := fun _ _ =>
  ⟨fun _ _ _ => step_run, fun _ _ _ => step_start, fun _ _ _ => step_undecodable, step_producer,
    step_consumer, fun _ _ _ => step_construct, step_of_inputs_nil, fun _ => startOp_eq_exec⟩

/-! ### Reading a slot never written -/

/-- A pop that may begin reads its slot when the queue is not empty, and faults when that holds nothing. -/
theorem popOperations_fault {s : State} (hbegin : s.popRefusal = none)
    (hne : s.pushPosition ≠ s.pullPosition) (hread : s.slotRead s.pullSlot = none) :
    exec .pop s = .fault (.unwrittenSlot s.pullSlot) ∧
      exec .consumeIter s = .fault (.unwrittenSlot s.pullSlot) := by
  have hempty : emptyAt s.loadPush s.pullPosition = false :=
    Bool.eq_false_iff.2 (mt (emptyAt_iff _ _).1 hne)
  simp [exec, execPop, execConsumeIter, hbegin, hempty, hread]

/-- Settles O25: with the queue built, the consumer idle and admitted, the pop begins. -/
theorem unwrittenSlotFaults : Obligations.UnwrittenSlotFaults :=
  fun _ hbuilt hidle hadmitted =>
    popOperations_fault (State.popRefusal_eq_none.2 ⟨hbuilt, hidle, hadmitted⟩)

/-! ### The reset state -/

/-- Settles O33: a constructed state holds these values whatever its sizes, and the sizes and schedule
of Config are the spec's defaults. -/
theorem resetValues : Obligations.ResetValues :=
  ⟨rfl, rfl, rfl, fun _ => rfl, rfl, rfl, rfl, rfl, rfl, rfl, rfl⟩

end Sys2Proof.Machine
end

section
/-! PROOFS. The slot index as the counter advances and wraps (R51, R143). -/

namespace Sys2Proof.Machine

/-- Advancing a counter of `POSW ≥ K` bits advances the slot by one, modulo `CAP` (R51). -/
theorem slotIndex_succ_mod_posw {p : Params} (h : p.k ≤ p.posw) (pos : Nat) :
    slotIndex p ((pos + 1) % 2 ^ p.posw) = slotIndex p (slotIndex p pos + 1) := by
  simp only [slotIndex_eq_mod, mod_posw_mod_cap h, Nat.mod_add_mod]

/-- The last position before the wrap is a position of the last slot, as `CAP` divides `2^POSW`. -/
theorem slotIndex_last_position {p : Params} (h : p.k ≤ p.posw) :
    slotIndex p (2 ^ p.posw - 1) = p.cap - 1 := by
  have hcap := cap_pos p
  have hnext : 2 ^ p.posw - 1 + 1 ≡ p.cap - 1 + 1 [MOD p.cap] := by
    rw [Nat.sub_add_cancel Nat.one_le_two_pow, Nat.sub_add_cancel hcap]
    exact (Nat.mod_eq_zero_of_dvd (Nat.pow_dvd_pow 2 h)).trans (Nat.mod_self _).symm
  rw [slotIndex_eq_mod, Nat.ModEq.add_right_cancel' 1 hnext, Nat.mod_eq_of_lt (by omega)]

/-- Settles O47: the index is a remainder by `CAP`, which the wrap of the counter does not disturb. -/
theorem slotIndexFollowsTheWrap : Obligations.SlotIndexFollowsTheWrap := by
  intro p pos
  refine ⟨slotIndex_eq_mod p pos, fun h => ⟨slotIndex_succ_mod_posw h pos,
    slotIndex_last_position h, ?_⟩⟩
  have hwrap : 2 ^ p.posw - 1 + 1 = 2 ^ p.posw := Nat.sub_add_cancel Nat.one_le_two_pow
  rw [hwrap, Nat.mod_self, Nat.zero_and]

end Sys2Proof.Machine
end

section
/-! PROOFS. The packed words as slices (R80, R93): a slice of a placed field is the field, or zeros
beside it. -/

namespace Sys2Proof

/-- A field fills its own slice. -/
theorem slice_place {n m : Nat} (v : BitVec n) (lo : Nat) (h : lo + n ≤ m) :
    (place m v lo).extractLsb' lo n = v := by
  apply BitVec.eq_of_getLsbD_eq
  intro i hi
  rw [BitVec.getLsbD_extractLsb', getLsbD_place]
  simp [hi, Nat.lt_of_lt_of_le (Nat.add_lt_add_left hi lo) h]

/-- A field leaves zeros in every slice that lies below or above it. -/
theorem slice_place_of_disjoint {n m : Nat} (v : BitVec n) (lo lo' n' : Nat)
    (h : lo' + n' ≤ lo ∨ lo + n ≤ lo') : (place m v lo).extractLsb' lo' n' = 0#n' := by
  apply BitVec.eq_of_getLsbD_eq
  intro i hi
  rw [BitVec.getLsbD_extractLsb', getLsbD_place]
  rcases h with h | h
  · have hlo : ¬lo ≤ lo' + i := by omega
    simp [hlo]
  · rw [BitVec.getLsbD_of_ge v _ (by omega)]
    simp

/-- A field as wide as the vector is the vector. -/
theorem place_full {m : Nat} (v : BitVec m) : place m v 0 = v := by
  simp [place]

/-- Two fields side by side are one field. -/
theorem place_append {m a b : Nat} (x : BitVec a) (y : BitVec b) (lo : Nat) :
    place m (x ++ y) lo = place m x (lo + b) ||| place m y lo := by
  apply BitVec.eq_of_getLsbD_eq
  intro i hi
  simp only [BitVec.getLsbD_or, getLsbD_place, BitVec.getLsbD_append]
  by_cases hb : i - lo < b
  · grind
  · rw [BitVec.getLsbD_of_ge y _ (Nat.not_lt.1 hb)]
    grind

/-- A slice placed where it was taken splits at any bit of it. -/
theorem place_slice_add {m : Nat} (w : BitVec m) (lo a b : Nat) :
    place m (w.extractLsb' lo (a + b)) lo =
      place m (w.extractLsb' lo a) lo ||| place m (w.extractLsb' (lo + a) b) (lo + a) := by
  apply BitVec.eq_of_getLsbD_eq
  intro i hi
  simp only [BitVec.getLsbD_or, getLsbD_place, BitVec.getLsbD_extractLsb', hi, decide_true,
    Bool.true_and]
  grind

/-- A vector with nothing set from bit `n` on is its low `n` bits. -/
theorem place_slice_of_ushiftRight {m : Nat} (w : BitVec m) (n : Nat) (h : w >>> n = 0) :
    place m (w.extractLsb' 0 n) 0 = w := by
  apply BitVec.eq_of_getLsbD_eq
  intro i hi
  have hz := congrArg (·.getLsbD (i - n)) h
  simp only [BitVec.getLsbD_ushiftRight, BitVec.ofNat_eq_ofNat, BitVec.getLsbD_zero] at hz
  simp only [getLsbD_place, BitVec.getLsbD_extractLsb', hi]
  by_cases hin : i < n
  · simp [hin]
  · rw [Nat.add_sub_cancel' (Nat.not_lt.1 hin)] at hz
    simp [hin, hz]

/-- Nothing is set from bit `n` on. -/
theorem ushiftRight_eq_zero {m : Nat} {w : BitVec m} {n : Nat}
    (h : ∀ i, n ≤ i → w.getLsbD i = false) : w >>> n = 0 := by
  apply BitVec.eq_of_getLsbD_eq
  intro i _
  rw [BitVec.getLsbD_ushiftRight, h _ (Nat.le_add_right n i)]
  exact BitVec.getLsbD_zero.symm

/-- Settles O6: the ten equations are those of `unpack_pack`, field by field. -/
theorem packedFrameLayout : Obligations.PackedFrameLayout := by
  intro f
  have h := f.unpack_pack
  have hp := congrArg CanFrame.payload h
  exact ⟨congrArg CanFrame.id h, congrArg CanFrame.dlc h, congrArg Payload.b0 hp,
    congrArg Payload.b1 hp, congrArg Payload.b2 hp, congrArg Payload.b3 hp,
    congrArg Payload.b4 hp, congrArg Payload.b5 hp, congrArg Payload.b6 hp,
    congrArg Payload.b7 hp⟩

end Sys2Proof
end

section
/-! PROOFS. The classification rows (R94 to R98): each row is selected by its own rule's condition, and
by nothing else. -/

namespace Sys2Proof

/-! ### The row a condition selects -/

theorem decodeFrame_of_isControl {f : CanFrame} {c : Nat} (h : f.id.isControl c = true) :
    decodeFrame f = .ok (controlRowOf f c) := by
  obtain ⟨hfam, rfl⟩ := (isControl_iff ..).1 h
  exact decodeFrame_control f hfam

theorem decodeFrame_of_isFormat {f : CanFrame} {ff : Nat} (h : f.id.isFormat ff = true) :
    decodeFrame f = .ok (openLcbRowOf f ff) := by
  obtain ⟨hfam, rfl⟩ := (isFormat_iff ..).1 h
  exact decodeFrame_openLcb f hfam

/-- `frameFormat == 1` is `id[27:24] == 9`. -/
theorem isFormat_one_iff (id : Ident) : id.isFormat 1 = true ↔ id.toNat / 2 ^ 24 % 2 ^ 4 = 9 := by
  rw [isFormat_iff]
  omega

/-- The `ID-MTI` rows are tried for format 1, and only then (R98). -/
theorem decodeMti_of_isFormat {f : CanFrame} (h : f.id.isFormat 1 = true) :
    decodeMti f =
      .ok (mtiRowOf f (f.id.toNat / 2 ^ 17 % 2 ^ 7) (f.id.toNat / 2 ^ 12 % 2 ^ 2)) :=
  decodeMti_formatOne f ((isFormat_one_iff _).1 h)

theorem decodeMti_of_not_isFormat {f : CanFrame} (h : ¬f.id.isFormat 1 = true) :
    decodeMti f = .error .notFormatOne :=
  decodeMti_otherFormat f (mt (isFormat_one_iff _).2 h)

/-- Priority and type together are `id[23:17]`. -/
theorem decodeMti_of_isMti {f : CanFrame} {gp tw : Nat} (h : f.id.isMti gp tw = true) :
    decodeMti f = .ok (mtiRowOf f (2 ^ 5 * gp + tw) (f.id.toNat / 2 ^ 12 % 2 ^ 2)) := by
  obtain ⟨hff, hgp, htw⟩ := (isMti_iff ..).1 h
  have hgt : f.id.toNat / 2 ^ 17 % 2 ^ 7 = 2 ^ 5 * gp + tw := by omega
  rw [decodeMti_of_isFormat hff, hgt]

theorem decodeMti_of_isConsumerIdentified {f : CanFrame} {mm : Nat}
    (h : f.id.isConsumerIdentified mm = true) : decodeMti f = .ok (mtiRowOf f 0x26 mm) := by
  obtain ⟨hmti, rfl⟩ := (isConsumerIdentified_iff ..).1 h
  exact decodeMti_of_isMti hmti

/-! ### The rows without a constant of their own -/

theorem wellFormed_cidHi_iff (f : CanFrame) :
    (Instr.cidHi f).wellFormed = true ↔
      f.id.toNat / 2 ^ 27 % 2 = 0 ∧ 0x4000 ≤ f.id.toNat / 2 ^ 12 % 2 ^ 15 := by
  simp only [Instr.wellFormed, Bool.and_eq_true, not_getLsbD_iff, getLsbD_iff]
  omega

theorem wellFormed_cidMid_iff (f : CanFrame) :
    (Instr.cidMid f).wellFormed = true ↔
      f.id.toNat / 2 ^ 27 % 2 = 0 ∧ 0x2000 ≤ f.id.toNat / 2 ^ 12 % 2 ^ 15 ∧
        f.id.toNat / 2 ^ 12 % 2 ^ 15 < 0x4000 := by
  simp only [Instr.wellFormed, Bool.and_eq_true, not_getLsbD_iff, getLsbD_iff]
  omega

theorem wellFormed_cidLo_iff (f : CanFrame) :
    (Instr.cidLo f).wellFormed = true ↔
      f.id.toNat / 2 ^ 27 % 2 = 0 ∧ 0x1000 < f.id.toNat / 2 ^ 12 % 2 ^ 15 ∧
        f.id.toNat / 2 ^ 12 % 2 ^ 15 < 0x2000 := by
  simp only [Instr.wellFormed, Bool.and_eq_true, not_getLsbD_iff, decide_eq_true_iff,
    contentBits_eq, and_assoc]

theorem wellFormed_ctrlReserved_iff (f : CanFrame) :
    (Instr.ctrlReserved f).wellFormed = true ↔
      f.id.toNat / 2 ^ 27 % 2 = 0 ∧ f.id.toNat / 2 ^ 12 % 2 ^ 15 < 0x1000 ∧
        (!namedContents.contains (f.id.toNat / 2 ^ 12 % 2 ^ 15)) = true := by
  simp only [Instr.wellFormed, Bool.and_eq_true, not_getLsbD_iff, decide_eq_true_iff,
    contentBits_eq, and_assoc]

theorem wellFormed_mtiUndeciphered_iff (f : CanFrame) :
    (Instr.mtiUndeciphered f).wellFormed = true ↔
      f.id.isFormat 1 = true ∧ ¬f.id.isMti 0 0x08 = true ∧ ¬f.id.isMti 1 0x06 = true := by
  simp only [Instr.wellFormed, Bool.and_eq_true, not_isMti_iff, and_assoc]

theorem decodeFrame_cidHi {f : CanFrame} (h : (Instr.cidHi f).wellFormed = true) :
    decodeFrame f = .ok (.cidHi f) := by
  obtain ⟨hfam, hlo⟩ := (wellFormed_cidHi_iff f).1 h
  rw [decodeFrame_control f hfam]
  simp (disch := omega) only [controlRowOf, if_pos, if_neg]

theorem decodeFrame_cidMid {f : CanFrame} (h : (Instr.cidMid f).wellFormed = true) :
    decodeFrame f = .ok (.cidMid f) := by
  obtain ⟨hfam, hlo, hhi⟩ := (wellFormed_cidMid_iff f).1 h
  rw [decodeFrame_control f hfam]
  simp (disch := omega) only [controlRowOf, if_pos, if_neg]

theorem decodeFrame_cidLo {f : CanFrame} (h : (Instr.cidLo f).wellFormed = true) :
    decodeFrame f = .ok (.cidLo f) := by
  obtain ⟨hfam, hlo, hhi⟩ := (wellFormed_cidLo_iff f).1 h
  rw [decodeFrame_control f hfam]
  simp (disch := omega) only [controlRowOf, if_pos, if_neg]

theorem decodeFrame_ctrlReserved {f : CanFrame} (h : (Instr.ctrlReserved f).wellFormed = true) :
    decodeFrame f = .ok (.ctrlReserved f) := by
  obtain ⟨hfam, hlt, hnot⟩ := (wellFormed_ctrlReserved_iff f).1 h
  rw [not_named_iff] at hnot
  rw [decodeFrame_control f hfam]
  simp (disch := omega) only [controlRowOf, if_neg]

theorem decodeMti_undeciphered {f : CanFrame} (h : (Instr.mtiUndeciphered f).wellFormed = true) :
    decodeMti f = .ok (.mtiUndeciphered f) := by
  obtain ⟨hff, hinit, hconsumer⟩ := (wellFormed_mtiUndeciphered_iff f).1 h
  simp only [isMti_iff, hff, true_and] at hinit hconsumer
  rw [decodeMti_of_isFormat hff]
  simp (disch := omega) only [mtiRowOf, if_neg]

/-! ### What the table selects is well formed -/

/-- The row that the first classification selects carries the frame and meets its own rule. -/
theorem decodeFrame_ok {f : CanFrame} {i : Instr} (h : decodeFrame f = .ok i) :
    i.wellFormed = true ∧ encode i = (.frame, frameWord f) := by
  rcases Nat.mod_two_eq_zero_or_one (f.id.toNat / 2 ^ 27) with hfam | hfam
  · obtain rfl := Except.ok.inj ((decodeFrame_control f hfam).symm.trans h)
    exact ⟨wellFormed_controlRowOf f hfam, encode_controlRowOf ..⟩
  · obtain rfl := Except.ok.inj ((decodeFrame_openLcb f hfam).symm.trans h)
    exact ⟨wellFormed_openLcbRowOf f hfam, encode_openLcbRowOf ..⟩

/-- The same of the second classification. -/
theorem decodeMti_ok {f : CanFrame} {i : Instr} (h : decodeMti f = .ok i) :
    i.wellFormed = true ∧ encode i = (.mti, frameWord f) := by
  by_cases hff : f.id.isFormat 1 = true
  · obtain rfl := Except.ok.inj ((decodeMti_of_isFormat hff).symm.trans h)
    exact ⟨wellFormed_mtiRowOf f ((isFormat_one_iff _).1 hff), encode_mtiRowOf ..⟩
  · rw [decodeMti_of_not_isFormat hff] at h
    cases h

/-! ### Every frame selects a row -/

/-- Every frame is a control frame or an OpenLCB frame of some format. -/
theorem decodeFrame_total (f : CanFrame) : ∃ i, decodeFrame f = .ok i := by
  rcases Nat.mod_two_eq_zero_or_one (f.id.toNat / 2 ^ 27) with hfam | hfam
  · exact ⟨_, decodeFrame_control f hfam⟩
  · exact ⟨_, decodeFrame_openLcb f hfam⟩

/-- Settles O8: both say that the frame is of format 1, the first by `decodeMti`'s guard, the second by
the selection condition of the row. -/
theorem everyFrameSelectsARow : Obligations.EveryFrameSelectsARow := by
  refine fun f => ⟨decodeFrame_total f, ?_, fun h => ?_⟩
  · rintro ⟨j, hj⟩
    by_cases hff : f.id.isFormat 1 = true
    · exact decodeFrame_of_isFormat hff
    · rw [decodeMti_of_not_isFormat hff] at hj
      cases hj
  · have hff : f.id.isFormat 1 = true := (decodeFrame_ok h).1
    exact ⟨_, decodeMti_of_isFormat hff⟩

/-! ### Rows of equal priority -/

/-- Patterns that differ on the bits both masks compare are not matched together. -/
theorem Row.not_both_apply {a b : Row} (h : a.pattern &&& b.mask ≠ b.pattern &&& a.mask)
    (id : Ident) : ¬(a.applies id = true ∧ b.applies id = true) := by
  rintro ⟨ha, hb⟩
  rw [Row.applies, beq_iff_eq] at ha hb
  apply h
  calc a.pattern &&& b.mask = id &&& a.mask &&& b.mask := by rw [ha]
    _ = id &&& b.mask &&& a.mask := by rw [BitVec.and_assoc, BitVec.and_comm a.mask, BitVec.and_assoc]
    _ = b.pattern &&& a.mask := by rw [hb]

/-- The table's patterns of equal priority differ on bits both masks compare. -/
theorem rows_patterns_differ : ∀ rows ∈ [ctrlRows, olcbRows, mtiRows], rows.Pairwise fun a b =>
    a.priority = b.priority → a.pattern &&& b.mask ≠ b.pattern &&& a.mask := by decide

/-- Settles O7: the order is read off the table, and the disjointness from its patterns and masks. -/
theorem rowsOfEqualPriorityAreDisjoint : Obligations.RowsOfEqualPriorityAreDisjoint := by
  refine fun rows hrows => ⟨?_, fun id => ?_⟩
  · have sorted : ∀ rows ∈ [ctrlRows, olcbRows, mtiRows],
        rows.Pairwise fun a b => a.priority ≤ b.priority := by decide
    exact sorted rows hrows
  · exact (rows_patterns_differ rows hrows).imp fun h hp => Row.not_both_apply (h hp) id

end Sys2Proof
end

section
/-! PROOFS. The operation words (R99) written and read back, and the two round trips of the encoding. -/

namespace Sys2Proof

/-! ### The selector and the operands of an operation word -/

/-- The operands leave the selector byte alone. -/
theorem slice_opWord_selector {s : Byte} {args : Word} (h : args.extractLsb' 0 8 = 0#8) :
    (opWord s args).extractLsb' 0 8 = s := by
  rw [opWord, BitVec.extractLsb'_or, slice_place s 0 (by decide), h, BitVec.or_zero]

/-- The selector leaves every slice of the operands alone. -/
theorem slice_opWord_operand (s : Byte) (args : Word) {lo : Nat} (n : Nat) (h : 8 ≤ lo) :
    (opWord s args).extractLsb' lo n = args.extractLsb' lo n := by
  rw [opWord, BitVec.extractLsb'_or, slice_place_of_disjoint s 0 lo n (.inr h), BitVec.zero_or]

/-- The selector byte of a word, in the two parts that `decodeOp` reads. -/
theorem selector_split (w : Word) :
    (w.extractLsb' 0 8).toNat = (w.extractLsb' 0 3).toNat + 8 * (w.extractLsb' 3 5).toNat := by
  simp only [toNat_slice]
  omega

/-- A selector byte below 8 leaves its upper five bits clear and stands in its lower three. -/
theorem selector_parts {w : Word} {s : Byte} (hs : s.toNat < 8) (h : w.extractLsb' 0 8 = s) :
    w.extractLsb' 3 5 = 0#5 ∧ (w.extractLsb' 0 3).toNat = s.toNat := by
  have hsplit := selector_split w
  rw [h] at hsplit
  have hlow := (w.extractLsb' 0 3).isLt
  refine ⟨BitVec.eq_of_toNat_eq ?_, ?_⟩
  · rw [BitVec.toNat_zero]
    omega
  · omega

/-! ### The operations with operands, by the selector byte (R99) -/

theorem decodeOp_selector_reset {w : Word} (h : w.extractLsb' 0 8 = 0) :
    decodeOp w = operands w 24 (.reset (w.extractLsb' 8 8).toNat (w.extractLsb' 16 8).toNat
      ((w.extractLsb' 24 8).toNat + 1)) := by
  obtain ⟨h₅, h₃⟩ := selector_parts (by decide) h
  rw [decodeOp, if_neg (by simp [h₅]), h₃]
  rfl

theorem decodeOp_selector_push {w : Word} (h : w.extractLsb' 0 8 = 1) :
    decodeOp w = operands w 100 (.push (.unpack (w.extractLsb' 8 100))) := by
  obtain ⟨h₅, h₃⟩ := selector_parts (by decide) h
  rw [decodeOp, if_neg (by simp [h₅]), h₃]
  rfl

theorem decodeOp_selector_classify {w : Word} (h : w.extractLsb' 0 8 = 4) :
    decodeOp w = operands w 100 (.classify (.unpack (w.extractLsb' 8 100))) := by
  obtain ⟨h₅, h₃⟩ := selector_parts (by decide) h
  rw [decodeOp, if_neg (by simp [h₅]), h₃]
  rfl

theorem decodeOp_selector_notify {w : Word} (h : w.extractLsb' 0 8 = 5) :
    decodeOp w =
      operands w 108 (.notify (.ofByte (w.extractLsb' 8 8)) (.unpack (w.extractLsb' 16 100))) := by
  obtain ⟨h₅, h₃⟩ := selector_parts (by decide) h
  rw [decodeOp, if_neg (by simp [h₅]), h₃]
  rfl

/-- A word with nothing above its operands is its selector and its operands. -/
theorem eq_opWord {w : Word} {n s : Nat} (h₅ : w.extractLsb' 3 5 = 0#5)
    (hs : (w.extractLsb' 0 3).toNat = s) (hz : w >>> (8 + n) = 0) :
    opWord (BitVec.ofNat 8 s) (place 120 (w.extractLsb' 8 n) 8) = w := by
  have hsel : BitVec.ofNat 8 s = w.extractLsb' 0 8 := by
    have hlow := (w.extractLsb' 0 3).isLt
    apply BitVec.eq_of_toNat_eq
    rw [selector_split, hs, h₅, BitVec.toNat_ofNat, BitVec.toNat_zero]
    omega
  calc opWord (BitVec.ofNat 8 s) (place 120 (w.extractLsb' 8 n) 8)
      = place 120 (w.extractLsb' 0 (8 + n)) 0 := by rw [hsel, opWord, place_slice_add w 0 8 n]
    _ = w := place_slice_of_ushiftRight w (8 + n) hz

/-- Operands are read when nothing is set above them. -/
theorem operands_eq_ok {w : Word} {n : Nat} (i : Instr) (h : w >>> (8 + n) = 0) :
    operands w n i = .ok i := by simp [operands, h]

/-- What is read has its selector and its operands for its word. -/
theorem operands_ok {w : Word} {n s : Nat} {i j : Instr} (h₅ : w.extractLsb' 3 5 = 0#5)
    (hs : (w.extractLsb' 0 3).toNat = s) (h : operands w n j = .ok i) :
    j = i ∧ opWord (BitVec.ofNat 8 s) (place 120 (w.extractLsb' 8 n) 8) = w := by
  unfold operands at h
  split at h
  · next hz => exact ⟨Except.ok.inj h, eq_opWord h₅ hs (beq_iff_eq.1 hz)⟩
  · cases h

/-! ### Reasons -/

theorem Reason.toByte_ofByte (b : Byte) : (Reason.ofByte b).toByte = b := by
  unfold Reason.ofByte
  split
  · next h => exact (beq_iff_eq.1 h).symm
  · exact (BitVec.ofNat_toNat _ b).trans (BitVec.setWidth_eq b)

theorem Reason.ofByte_toByte {r : Reason} {f : CanFrame}
    (h : (Instr.notify r f).wellFormed = true) : Reason.ofByte r.toByte = r := by
  cases r with
  | rx => rfl
  | other c =>
    simp only [Instr.wellFormed, Bool.and_eq_true, decide_eq_true_iff] at h
    have hc : (BitVec.ofNat 8 c).toNat = c := by
      rw [BitVec.toNat_ofNat]
      omega
    have hne : BitVec.ofNat 8 c ≠ 0#8 := fun e => by
      rw [e, BitVec.toNat_zero] at hc
      omega
    simpa [Reason.ofByte, Reason.toByte, hc] using hne

theorem wellFormed_notify_ofByte (b : Byte) (f : CanFrame) :
    (Instr.notify (.ofByte b) f).wellFormed = true := by
  unfold Reason.ofByte
  split
  · rfl
  · next h =>
    have hlt := b.isLt
    have hne : b.toNat ≠ 0 := fun e => h (beq_iff_eq.2 (BitVec.eq_of_toNat_eq e))
    simp only [Instr.wellFormed, Bool.and_eq_true, decide_eq_true_iff]
    omega

/-! ### Written and read back -/

theorem decode_frameWord (f : CanFrame) : decode .frame (frameWord f) = decodeFrame f := by
  simp [decode]

theorem decode_frameWord_mti (f : CanFrame) : decode .mti (frameWord f) = decodeMti f := by
  simp [decode]

/-- Nothing is set above the operands of an encoded operation (log entry 8). -/
theorem encode_ushiftRight {i : Instr} {n : Nat} (h : Laws.EncodedWidth.Statement i)
    (hn : Laws.EncodedWidth.width i ≤ n) : (encode i).2 >>> n = 0 :=
  ushiftRight_eq_zero fun k hk => h k (hn.trans hk)

theorem decodeOp_reset {k posw dropw : Nat} (h : (Instr.reset k posw dropw).wellFormed = true) :
    decodeOp (encode (.reset k posw dropw)).2 = .ok (.reset k posw dropw) := by
  simp only [Instr.wellFormed, Bool.and_eq_true, decide_eq_true_iff] at h
  obtain ⟨⟨⟨hk, hp⟩, hd₁⟩, hd₂⟩ := h
  have hd : (dropw - 1) % 2 ^ 8 + 1 = dropw := by omega
  have hsel : (resetArgs k posw dropw).extractLsb' 0 8 = 0#8 := by
    simp [resetArgs, BitVec.extractLsb'_or, slice_place_of_disjoint]
  have hargs : (resetArgs k posw dropw).extractLsb' 8 8 = BitVec.ofNat 8 k ∧
      (resetArgs k posw dropw).extractLsb' 16 8 = BitVec.ofNat 8 posw ∧
      (resetArgs k posw dropw).extractLsb' 24 8 = BitVec.ofNat 8 (dropw - 1) := by
    simp [resetArgs, BitVec.extractLsb'_or, slice_place, slice_place_of_disjoint]
  obtain ⟨hk', hp', hd'⟩ := hargs
  refine (decodeOp_selector_reset (slice_opWord_selector hsel)).trans
    ((operands_eq_ok _ (encode_ushiftRight (Laws.EncodedWidth.reset k posw dropw) le_rfl)).trans ?_)
  rw [slice_opWord_operand, slice_opWord_operand, slice_opWord_operand, hk', hp', hd',
    BitVec.toNat_ofNat, BitVec.toNat_ofNat, BitVec.toNat_ofNat, Nat.mod_eq_of_lt hk,
    Nat.mod_eq_of_lt hp, hd] <;> decide

/-- The frame operand of `PUSH` and `CLASSIFY` is read back, whatever the selector. -/
theorem unpack_frameOperand (s : Byte) (f : CanFrame) :
    CanFrame.unpack ((opWord s (place 120 f.pack 8)).extractLsb' 8 100) = f := by
  rw [slice_opWord_operand s _ 100 le_rfl, slice_place f.pack 8 (by decide), f.unpack_pack]

theorem selector_frameOperand (s : Byte) (f : CanFrame) :
    (opWord s (place 120 f.pack 8)).extractLsb' 0 8 = s :=
  slice_opWord_selector (slice_place_of_disjoint f.pack 8 0 8 (by decide))

theorem decodeOp_push (f : CanFrame) : decodeOp (encode (.push f)).2 = .ok (.push f) := by
  refine (decodeOp_selector_push (selector_frameOperand 1 f)).trans
    ((operands_eq_ok _ (encode_ushiftRight (Laws.EncodedWidth.push f) le_rfl)).trans ?_)
  rw [unpack_frameOperand]

theorem decodeOp_classify (f : CanFrame) :
    decodeOp (encode (.classify f)).2 = .ok (.classify f) := by
  refine (decodeOp_selector_classify (selector_frameOperand 4 f)).trans
    ((operands_eq_ok _ (encode_ushiftRight (Laws.EncodedWidth.classify f) le_rfl)).trans ?_)
  rw [unpack_frameOperand]

theorem decodeOp_notify {r : Reason} {f : CanFrame} (h : (Instr.notify r f).wellFormed = true) :
    decodeOp (encode (.notify r f)).2 = .ok (.notify r f) := by
  have hargs : (place 120 r.toByte 8 ||| place 120 f.pack 16).extractLsb' 0 8 = 0#8 ∧
      (place 120 r.toByte 8 ||| place 120 f.pack 16).extractLsb' 8 8 = r.toByte ∧
      (place 120 r.toByte 8 ||| place 120 f.pack 16).extractLsb' 16 100 = f.pack := by
    simp [BitVec.extractLsb'_or, slice_place, slice_place_of_disjoint]
  obtain ⟨hsel, hr, hf⟩ := hargs
  refine (decodeOp_selector_notify (slice_opWord_selector hsel)).trans
    ((operands_eq_ok _ (encode_ushiftRight (Laws.EncodedWidth.notify r f) le_rfl)).trans ?_)
  rw [slice_opWord_operand, slice_opWord_operand, hr, hf, Reason.ofByte_toByte h, f.unpack_pack] <;>
    decide

/-- A row of the first classification is read back when the table selects it for its frame. -/
theorem decode_frameRow {f : CanFrame} {i : Instr} (he : encode i = (.frame, frameWord f))
    (h : decodeFrame f = .ok i) : decode (encode i).1 (encode i).2 = .ok i := by
  rw [he]
  exact (decode_frameWord f).trans h

/-- The same of the second classification. -/
theorem decode_mtiRow {f : CanFrame} {i : Instr} (he : encode i = (.mti, frameWord f))
    (h : decodeMti f = .ok i) : decode (encode i).1 (encode i).2 = .ok i := by
  rw [he]
  exact (decode_frameWord_mti f).trans h

/-- Settles O4: an operation is read back by its selector, a row by the condition of its own rule. -/
theorem encodeThenDecode : Obligations.EncodeThenDecode := by
  intro i h
  cases i with
  | reset => exact decodeOp_reset h
  | push f => exact decodeOp_push f
  | pop => rfl
  | dropCount => rfl
  | classify f => exact decodeOp_classify f
  | notify => exact decodeOp_notify h
  | consumeIter => rfl
  | rid | amd | ame | amr | eir0 | eir1 | eir2 | eir3 | ctrlReserved1000 =>
    exact decode_frameRow rfl (decodeFrame_of_isControl h)
  | cidHi f => exact decode_frameRow rfl (decodeFrame_cidHi h)
  | cidMid f => exact decode_frameRow rfl (decodeFrame_cidMid h)
  | cidLo f => exact decode_frameRow rfl (decodeFrame_cidLo h)
  | ctrlReserved f => exact decode_frameRow rfl (decodeFrame_ctrlReserved h)
  | olcbReserved0 | olcbGlobalAddressedMti | olcbDatagramComplete | olcbDatagramFirst
    | olcbDatagramMiddle | olcbDatagramFinal | olcbReserved6 | olcbStreamData =>
    exact decode_frameRow rfl (decodeFrame_of_isFormat h)
  | mtiInitializationComplete => exact decode_mtiRow rfl (decodeMti_of_isMti h)
  | mtiConsumerIdentifiedValid | mtiConsumerIdentifiedInvalid | mtiNone
    | mtiConsumerIdentifiedUnknown =>
    exact decode_mtiRow rfl (decodeMti_of_isConsumerIdentified h)
  | mtiUndeciphered => exact decode_mtiRow rfl (decodeMti_undeciphered h)

/-! ### Read and written back -/

/-- A word of a frame space that is read holds a frame, and the table selects what was read. -/
theorem decode_frame_ok {w : Word} {i : Instr} (h : decode .frame w = .ok i) :
    ∃ f, frameOfWord w = .ok f ∧ decodeFrame f = .ok i := by
  cases hf : frameOfWord w with
  | ok f =>
    simp only [decode, hf] at h
    exact ⟨f, rfl, h⟩
  | error e =>
    simp only [decode, hf] at h
    cases h

theorem decode_mti_ok {w : Word} {i : Instr} (h : decode .mti w = .ok i) :
    ∃ f, frameOfWord w = .ok f ∧ decodeMti f = .ok i := by
  cases hf : frameOfWord w with
  | ok f =>
    simp only [decode, hf] at h
    exact ⟨f, rfl, h⟩
  | error e =>
    simp only [decode, hf] at h
    cases h

theorem wellFormed_reset_bytes (k posw dropw : Byte) :
    (Instr.reset k.toNat posw.toNat (dropw.toNat + 1)).wellFormed = true := by
  have hk := k.isLt
  have hp := posw.isLt
  have hd := dropw.isLt
  simp only [Instr.wellFormed, Bool.and_eq_true, decide_eq_true_iff]
  omega

/-- The three bytes of `RESET` together are its operands (log entry 8). -/
theorem resetArgs_slices (w : Word) :
    resetArgs (w.extractLsb' 8 8).toNat (w.extractLsb' 16 8).toNat
      ((w.extractLsb' 24 8).toNat + 1) = place 120 (w.extractLsb' 8 24) 8 := by
  rw [resetArgs, Nat.add_sub_cancel, place_slice_add w 8 16 8, place_slice_add w 8 8 8]
  simp only [BitVec.ofNat_toNat, BitVec.setWidth_eq]

/-- An operand of no bits sets none. -/
theorem opWord_place_nil (s : Byte) (v : BitVec 0) (lo : Nat) :
    opWord s (place 120 v lo) = opWord s 0 := by
  have hv : place 120 v lo = 0 := by
    rw [BitVec.eq_nil v]
    exact BitVec.zero_shiftLeft _
  rw [hv]

/-- An operation word that is read is the selector and the operands of what was read. -/
theorem decodeOp_ok {w : Word} {i : Instr} (h : decodeOp w = .ok i) :
    i.wellFormed = true ∧ (encode i).1 = .op ∧ (encode i).2 = w := by
  unfold decodeOp at h
  split at h
  · cases h
  next h₅ =>
  replace h₅ : w.extractLsb' 3 5 = 0#5 := by simpa using h₅
  split at h
  case h_1 hs =>
    obtain ⟨rfl, hw⟩ := operands_ok h₅ hs h
    refine ⟨wellFormed_reset_bytes .., rfl, .trans ?_ hw⟩
    rw [← resetArgs_slices]
    rfl
  case h_2 hs | h_5 hs =>
    obtain ⟨rfl, hw⟩ := operands_ok h₅ hs h
    refine ⟨rfl, rfl, .trans ?_ hw⟩
    rw [encode, CanFrame.pack_unpack]
    rfl
  case h_3 hs | h_4 hs | h_7 hs =>
    obtain ⟨rfl, hw⟩ := operands_ok h₅ hs h
    exact ⟨rfl, rfl, (opWord_place_nil ..).symm.trans hw⟩
  case h_6 hs =>
    obtain ⟨rfl, hw⟩ := operands_ok h₅ hs h
    refine ⟨wellFormed_notify_ofByte .., rfl, .trans ?_ hw⟩
    rw [encode, Reason.toByte_ofByte, CanFrame.pack_unpack, place_slice_add w 8 8 100]
    rfl
  case h_8 => cases h

/-- Settles O5: in each space what is read carries all the bits of the word. -/
theorem decodeThenEncode : Obligations.DecodeThenEncode := by
  intro sp w i h
  cases sp with
  | op =>
    obtain ⟨hwf, hsp, hw⟩ := decodeOp_ok h
    exact ⟨hwf, Prod.ext hsp hw⟩
  | frame =>
    obtain ⟨f, hf, hi⟩ := decode_frame_ok h
    rw [← frameWord_of_frameOfWord hf]
    exact decodeFrame_ok hi
  | mti =>
    obtain ⟨f, hf, hi⟩ := decode_mti_ok h
    rw [← frameWord_of_frameOfWord hf]
    exact decodeMti_ok hi

end Sys2Proof
end

section
/-! PROOFS. A table row's word placed as the next move, and the words the spec names, read. -/

namespace Sys2Proof.Machine

theorem decode_of_decodeTableWord {nbits w : Nat} {i : Instr}
    (h : decodeTableWord nbits w = some i) :
    decode (tableSpace nbits w) (tableWord nbits w) = .ok i := by
  unfold decodeTableWord at h
  split at h
  · next hd => rw [hd, Option.some.inj h]
  · cases h

/-- Settles O2: the placed move is the first, and using it up gives the state back. -/
theorem fetchWordRunsItsRow : Obligations.FetchWordRunsItsRow := fun _ _ _ _ h =>
  step_run rfl (decode_of_decodeTableWord h)

/-- A table word that an operation is written as is read as that operation. -/
theorem decodeTableWord_of_encode {nbits w : Nat} {i : Instr} (h : i.wellFormed = true)
    (he : encode i = (tableSpace nbits w, tableWord nbits w)) : decodeTableWord nbits w = some i := by
  have hd := encodeThenDecode i h
  rw [he] at hd
  simp only [decodeTableWord, hd]

/-- Settles O3: each word is the encoding of what it stands for; selector 7 is left over. -/
theorem wordsDecodeToWhatTheyStandFor : Obligations.WordsDecodeToWhatTheyStandFor :=
  ⟨decodeTableWord_of_encode rfl rfl, decodeTableWord_of_encode rfl rfl,
    decodeTableWord_of_encode rfl rfl, decodeTableWord_of_encode rfl rfl,
    decodeTableWord_of_encode rfl rfl, decodeTableWord_of_encode rfl rfl,
    decodeTableWord_of_encode rfl rfl, rfl,
    decodeTableWord_of_encode rfl rfl, decodeTableWord_of_encode rfl rfl,
    decodeTableWord_of_encode rfl rfl, decodeTableWord_of_encode rfl rfl,
    decodeTableWord_of_encode rfl rfl, decodeTableWord_of_encode rfl rfl,
    decodeTableWord_of_encode rfl rfl⟩

end Sys2Proof.Machine
end

section
/-! PROOFS. The fields of an identifier as slices (R87). -/

namespace Sys2Proof.Machine

theorem family_eq_slice (id : Ident) : family id = id.extractLsb' 27 1 :=
  field_eq_slice id 27 1 (by decide)

theorem frameFormat_eq_slice (id : Ident) : frameFormat id = id.extractLsb' 24 3 :=
  field_eq_slice id 24 3 (by decide)

theorem grossPriority_eq_slice (id : Ident) : grossPriority id = id.extractLsb' 22 2 :=
  field_eq_slice id 22 2 (by decide)

theorem typeWithinPriority_eq_slice (id : Ident) :
    typeWithinPriority id = id.extractLsb' 17 5 :=
  field_eq_slice id 17 5 (by decide)

theorem simpleProtocol_eq_slice (id : Ident) : simpleProtocol id = id.extractLsb' 16 1 :=
  field_eq_slice id 16 1 (by decide)

theorem addressPresent_eq_slice (id : Ident) : addressPresent id = id.extractLsb' 15 1 :=
  field_eq_slice id 15 1 (by decide)

theorem eventPresent_eq_slice (id : Ident) : eventPresent id = id.extractLsb' 14 1 :=
  field_eq_slice id 14 1 (by decide)

theorem messageModifier_eq_slice (id : Ident) : messageModifier id = id.extractLsb' 12 2 :=
  field_eq_slice id 12 2 (by decide)

theorem sourceAddress_eq_slice (id : Ident) : sourceAddress id = id.extractLsb' 0 12 :=
  field_eq_slice id 0 12 (by decide)

theorem mti_eq_slice (id : Ident) : mti id = id.extractLsb' 12 12 :=
  field_eq_slice id 12 12 (by decide)

theorem content_eq_slice (id : Ident) : content id = id.extractLsb' 12 15 :=
  field_eq_slice id 12 15 (by decide)

/-- The top three bits of the content. -/
theorem frameSeqNum_eq_slice (id : Ident) : frameSeqNum id = id.extractLsb' 24 3 := by
  apply BitVec.eq_of_toNat_eq
  rw [frameSeqNum, content_eq_slice, BitVec.toNat_setWidth, BitVec.toNat_ushiftRight, toNat_slice,
    toNat_slice, Nat.shiftRight_eq_div_pow]
  omega

theorem sourceNidAlias_eq_slice (id : Ident) : sourceNidAlias id = id.extractLsb' 0 12 :=
  field_eq_slice id 0 12 (by decide)

/-- Settles O11, a lemma for each field. -/
theorem fieldsAreTheirSlices : Obligations.FieldsAreTheirSlices := fun id =>
  ⟨family_eq_slice id, frameFormat_eq_slice id, grossPriority_eq_slice id,
    typeWithinPriority_eq_slice id, simpleProtocol_eq_slice id, addressPresent_eq_slice id,
    eventPresent_eq_slice id, messageModifier_eq_slice id, sourceAddress_eq_slice id,
    mti_eq_slice id, content_eq_slice id, frameSeqNum_eq_slice id, sourceNidAlias_eq_slice id⟩

end Sys2Proof.Machine
end

section
/-! PROOFS. The two lookups of the decoder, each class with the values that give it (R94, R96). -/

namespace Sys2Proof.Machine

/-! ### The class of a content -/

/-- The contents of a class (R90, R94). -/
def contentClassCovers (c : BitVec 15) : ContentClass → Prop
  | .rid => c = 0x0700
  | .amd => c = 0x0701
  | .ame => c = 0x0702
  | .amr => c = 0x0703
  | .eir0 => c = 0x0710
  | .eir1 => c = 0x0711
  | .eir2 => c = 0x0712
  | .eir3 => c = 0x0713
  | .cid => 0x1000 < c.toNat
  | .ctrlReserved =>
    c.toNat ≤ 0x06FF ∨ (0x0704 ≤ c.toNat ∧ c.toNat ≤ 0x070F) ∨
      (0x0714 ≤ c.toNat ∧ c.toNat ≤ 0x1000)

/-- Each test of the lookup that succeeds gives a class that covers the content. -/
theorem contentClassOf_covers (c : BitVec 15) : contentClassCovers c (contentClassOf c) := by
  unfold contentClassOf
  iterate 9
    refine ite_elim (P := contentClassCovers c) (fun h => ?_) fun _ => ?_
    · simpa [contentClassCovers, BitVec.lt_def] using h
  simp only [beq_iff_eq, ← BitVec.toNat_inj, BitVec.lt_def, BitVec.ofNat_eq_ofNat,
    BitVec.toNat_ofNat] at *
  simp only [contentClassCovers]
  omega

/-- A class that covers one content and not another tells them apart. -/
theorem beq_eq_false_of_covers {c n : BitVec 15} {k : ContentClass} (h : contentClassCovers c k)
    (hn : ¬contentClassCovers n k) : (c == n) = false :=
  beq_false_of_ne fun e => hn (e ▸ h)

/-- No content lies in two classes. -/
theorem contentClassOf_of_covers {c : BitVec 15} {k : ContentClass}
    (h : contentClassCovers c k) : contentClassOf c = k := by
  cases k with
  | rid | amd | ame | amr | eir0 | eir1 | eir2 | eir3 =>
    obtain rfl := h
    rfl
  | cid =>
    have hlt : 0x1000 < c := h
    simpa [contentClassOf, beq_eq_false_of_covers h, contentClassCovers] using hlt
  | ctrlReserved =>
    have hlt : ¬0x1000 < c := by
      simp only [contentClassCovers] at h
      bv_omega
    simpa [contentClassOf, beq_eq_false_of_covers h, contentClassCovers] using hlt

theorem contentClassOf_eq_iff (c : BitVec 15) (k : ContentClass) :
    contentClassOf c = k ↔ contentClassCovers c k :=
  ⟨fun h => h ▸ contentClassOf_covers c, contentClassOf_of_covers⟩

/-- Settles O12, a class at a time; the codes are read off the table. -/
theorem contentClassTable : Obligations.ContentClassTable := fun c =>
  have h := contentClassOf_eq_iff c
  ⟨h .rid, h .amd, h .ame, h .amr, h .eir0, h .eir1, h .eir2, h .eir3, h .cid, h .ctrlReserved,
    rfl⟩

/-! ### The class of a format-1 frame -/

/-- The priorities, types and modifiers of a class (R92, R96). -/
def mtiClassCovers (gp : BitVec 2) (tw : BitVec 5) (mm : BitVec 2) : MtiClass → Prop
  | .undeciphered => ¬(gp = 0 ∧ tw = 0x08) ∧ ¬(gp = 1 ∧ tw = 0x06)
  | .initializationComplete => gp = 0 ∧ tw = 0x08
  | .consumerIdentifiedValid => gp = 1 ∧ tw = 0x06 ∧ mm = 0
  | .consumerIdentifiedInvalid => gp = 1 ∧ tw = 0x06 ∧ mm = 1
  | .consumerIdentifiedUnknown => gp = 1 ∧ tw = 0x06 ∧ mm = 3
  | .none => gp = 1 ∧ tw = 0x06 ∧ mm = 2

/-- The four modifiers of Consumer Identified (R190 to R193). -/
theorem mtiClassCovers_consumerIdentifiedOf (mm : BitVec 2) :
    mtiClassCovers 1 0x06 mm (consumerIdentifiedOf mm) := by
  have hmm : ∀ mm : BitVec 2, mm = 0 ∨ mm = 1 ∨ mm = 2 ∨ mm = 3 := by decide
  rcases hmm mm with rfl | rfl | rfl | rfl <;> exact ⟨rfl, rfl, rfl⟩

theorem mtiClassOf_undeciphered {gp : BitVec 2} {tw : BitVec 5} (mm : BitVec 2)
    (h₁ : ¬(gp = 0 ∧ tw = 0x08)) (h₂ : ¬(gp = 1 ∧ tw = 0x06)) :
    mtiClassOf gp tw mm = .undeciphered := by
  unfold mtiClassOf
  grind

theorem mtiClassOf_covers (gp : BitVec 2) (tw : BitVec 5) (mm : BitVec 2) :
    mtiClassCovers gp tw mm (mtiClassOf gp tw mm) := by
  by_cases h₁ : gp = 0 ∧ tw = 0x08
  · obtain ⟨rfl, rfl⟩ := h₁
    exact ⟨rfl, rfl⟩
  by_cases h₂ : gp = 1 ∧ tw = 0x06
  · obtain ⟨rfl, rfl⟩ := h₂
    exact mtiClassCovers_consumerIdentifiedOf mm
  rw [mtiClassOf_undeciphered mm h₁ h₂]
  exact ⟨h₁, h₂⟩

/-- No priority, type and modifier lie in two classes. -/
theorem mtiClassOf_of_covers {gp : BitVec 2} {tw : BitVec 5} {mm : BitVec 2} {k : MtiClass}
    (h : mtiClassCovers gp tw mm k) : mtiClassOf gp tw mm = k := by
  cases k with
  | undeciphered => exact mtiClassOf_undeciphered mm h.1 h.2
  | initializationComplete =>
    obtain ⟨rfl, rfl⟩ := h
    rfl
  | consumerIdentifiedValid | consumerIdentifiedInvalid | consumerIdentifiedUnknown | none =>
    obtain ⟨rfl, rfl, rfl⟩ := h
    rfl

theorem mtiClassOf_eq_iff (gp : BitVec 2) (tw : BitVec 5) (mm : BitVec 2) (k : MtiClass) :
    mtiClassOf gp tw mm = k ↔ mtiClassCovers gp tw mm k :=
  ⟨fun h => h ▸ mtiClassOf_covers gp tw mm, mtiClassOf_of_covers⟩

/-- Settles O13, a class at a time; the codes are read off the table. -/
theorem mtiClassTable : Obligations.MtiClassTable := fun gp tw mm =>
  have h := mtiClassOf_eq_iff gp tw mm
  ⟨h .undeciphered, h .initializationComplete, h .consumerIdentifiedValid,
    h .consumerIdentifiedInvalid, h .consumerIdentifiedUnknown, h .none, rfl⟩

end Sys2Proof.Machine
end

section
/-! PROOFS. `classify` by the conditions of the classification rows, and the rows against it (R170 against
R174 to R200). -/

namespace Sys2Proof.Machine

/-! ### The three kinds of frame -/

/-- `id[27]` clear, as the decoder tests it. -/
theorem and_family_eq_zero_iff (id : Ident) :
    (id &&& 0x08000000 == 0) = true ↔ id.toNat / 2 ^ 27 % 2 = 0 := by
  rw [beq_iff_eq, and_family _ _ (by decide)]
  simp

/-- `id[27]` set and `frameFormat == 1`, as one mask (R98). -/
theorem and_format_eq_one_iff (id : Ident) :
    id &&& 0x0F000000 = 0x09000000 ↔ id.isFormat 1 = true := by
  rw [and_format _ _ (by decide), isFormat_one_iff]
  simp

theorem classify_control {f : CanFrame} (h : f.id.toNat / 2 ^ 27 % 2 = 0) :
    classify f = controlResult f.id (contentClassOf (content f.id)) := by
  rw [classify, if_pos ((and_family_eq_zero_iff _).2 h)]

theorem isFormat_iff_fields (id : Ident) (ff : BitVec 3) :
    id.isFormat ff.toNat = true ↔ id.toNat / 2 ^ 27 % 2 = 1 ∧ frameFormat id = ff := by
  rw [isFormat_iff, frameFormat_eq_slice, ← BitVec.toNat_inj, toNat_slice]

theorem classify_plain {f : CanFrame} {ff : BitVec 3} (h : f.id.isFormat ff.toNat = true)
    (hne : ff ≠ 1) : classify f = plainResult ff (formatClassOf ff) := by
  obtain ⟨hfam, rfl⟩ := (isFormat_iff_fields ..).1 h
  have hcontrol : ¬(f.id &&& 0x08000000 == 0) = true := by
    rw [and_family_eq_zero_iff]
    omega
  rw [classify, if_neg hcontrol, if_pos (bne_iff_ne.2 hne)]

theorem classify_formatOne {f : CanFrame} (h : f.id.isFormat 1 = true) :
    classify f = mtiResult f
      (mtiClassOf (grossPriority f.id) (typeWithinPriority f.id) (messageModifier f.id)) := by
  obtain ⟨hfam, hff⟩ := (isFormat_iff_fields f.id 1).1 h
  have hcontrol : ¬(f.id &&& 0x08000000 == 0) = true := by
    rw [and_family_eq_zero_iff]
    omega
  rw [classify, if_neg hcontrol, if_neg (by simp [hff])]

/-- Every frame is of one of the three kinds. -/
theorem classify_cases (f : CanFrame) :
    (f.id.toNat / 2 ^ 27 % 2 = 0 ∧
      classify f = controlResult f.id (contentClassOf (content f.id))) ∨
    (∃ ff : BitVec 3, ff ≠ 1 ∧ f.id.isFormat ff.toNat = true ∧
      classify f = plainResult ff (formatClassOf ff)) ∨
    (f.id.isFormat 1 = true ∧ classify f = mtiResult f
      (mtiClassOf (grossPriority f.id) (typeWithinPriority f.id) (messageModifier f.id))) := by
  rcases Nat.mod_two_eq_zero_or_one (f.id.toNat / 2 ^ 27) with hfam | hfam
  · exact .inl ⟨hfam, classify_control hfam⟩
  have hff := (isFormat_iff_fields f.id _).2 ⟨hfam, rfl⟩
  by_cases hone : frameFormat f.id = 1
  · rw [hone] at hff
    exact .inr (.inr ⟨hff, classify_formatOne hff⟩)
  · exact .inr (.inl ⟨_, hone, hff, classify_plain hff hone⟩)

/-! ### The class by a row's condition -/

theorem toNat_content (id : Ident) : (content id).toNat = id.toNat / 2 ^ 12 % 2 ^ 15 := by
  rw [content_eq_slice, toNat_slice]

theorem classify_of_contentClass {f : CanFrame} {k : ContentClass}
    (hfam : f.id.toNat / 2 ^ 27 % 2 = 0) (hk : contentClassCovers (content f.id) k) :
    classify f = controlResult f.id k := by
  rw [classify_control hfam, contentClassOf_of_covers hk]

/-- A frame of a given content (R174 to R181, R183). -/
theorem classify_of_isControl {f : CanFrame} {c : BitVec 15}
    (h : f.id.isControl c.toNat = true) :
    content f.id = c ∧ classify f = controlResult f.id (contentClassOf c) := by
  obtain ⟨hfam, hc⟩ := (isControl_iff ..).1 h
  rw [← toNat_content, BitVec.toNat_inj] at hc
  exact ⟨hc, hc ▸ classify_control hfam⟩

/-- A content below 0x1000 has `frameSeqNum` 0, as the named rows write it out (R174 to R181). -/
theorem classify_named {f : CanFrame} {c : BitVec 15} (h : f.id.isControl c.toNat = true)
    (hlt : c < 0x1000) : classify f = namedResult f c (contentClassOf c) := by
  obtain ⟨rfl, hd⟩ := classify_of_isControl h
  have hseq : frameSeqNum f.id = 0 := by
    simp only [frameSeqNum]
    bv_omega
  rw [hd, controlResult, namedResult, hseq]

theorem isMti_iff_fields (id : Ident) (gp : BitVec 2) (tw : BitVec 5) :
    id.isMti gp.toNat tw.toNat = true ↔
      id.isFormat 1 = true ∧ grossPriority id = gp ∧ typeWithinPriority id = tw := by
  rw [isMti_iff, grossPriority_eq_slice, typeWithinPriority_eq_slice, ← BitVec.toNat_inj,
    ← BitVec.toNat_inj, toNat_slice, toNat_slice]

theorem isConsumerIdentified_iff_fields (id : Ident) (mm : BitVec 2) :
    id.isConsumerIdentified mm.toNat = true ↔
      id.isFormat 1 = true ∧ grossPriority id = 1 ∧ typeWithinPriority id = 0x06 ∧
        messageModifier id = mm := by
  rw [isConsumerIdentified_iff, messageModifier_eq_slice, ← toNat_slice, BitVec.toNat_inj]
  exact (and_congr_left' (isMti_iff_fields id 1 0x06)).trans (by simp only [and_assoc])

/-- A content above 0x1000 is a check of an identifier (R182). -/
theorem classify_checkId {f : CanFrame} (hfam : f.id.toNat / 2 ^ 27 % 2 = 0)
    (hlt : 0x1000 < f.id.toNat / 2 ^ 12 % 2 ^ 15) : classify f = controlResult f.id .cid := by
  rw [← toNat_content] at hlt
  exact classify_of_contentClass hfam hlt

theorem classify_ctrlReserved {f : CanFrame} (h : (Instr.ctrlReserved f).wellFormed = true) :
    classify f = controlResult f.id .ctrlReserved := by
  obtain ⟨hfam, hlt, hnot⟩ := (wellFormed_ctrlReserved_iff f).1 h
  refine classify_of_contentClass (k := .ctrlReserved) hfam ?_
  rw [not_named_iff] at hnot
  simp only [contentClassCovers, toNat_content]
  omega

/-- A format-1 frame of a given class (R189 to R194). -/
theorem classify_of_mtiClass {f : CanFrame} {k : MtiClass} (h : f.id.isFormat 1 = true)
    (hk : mtiClassCovers (grossPriority f.id) (typeWithinPriority f.id) (messageModifier f.id) k) :
    classify f = mtiResult f k := by
  rw [classify_formatOne h, mtiClassOf_of_covers hk]

theorem classify_initializationComplete {f : CanFrame} (h : f.id.isMti 0 0x08 = true) :
    classify f = mtiResult f .initializationComplete := by
  obtain ⟨hff, hk⟩ := (isMti_iff_fields f.id 0 0x08).1 h
  exact classify_of_mtiClass hff hk

/-- The modifier gives the class (R190 to R193). -/
theorem classify_consumerIdentified {f : CanFrame} (mm : BitVec 2)
    (h : f.id.isConsumerIdentified mm.toNat = true) :
    classify f = mtiResult f (consumerIdentifiedOf mm) := by
  obtain ⟨hff, hgp, htw, hmm⟩ := (isConsumerIdentified_iff_fields f.id mm).1 h
  refine classify_of_mtiClass hff ?_
  rw [hgp, htw, hmm]
  exact mtiClassCovers_consumerIdentifiedOf mm

theorem classify_undeciphered {f : CanFrame} (h : (Instr.mtiUndeciphered f).wellFormed = true) :
    classify f = mtiResult f .undeciphered := by
  obtain ⟨hff, hinit, hconsumer⟩ := (wellFormed_mtiUndeciphered_iff f).1 h
  exact classify_of_mtiClass hff
    ⟨fun hk => hinit ((isMti_iff_fields f.id 0 0x08).2 ⟨hff, hk⟩),
      fun hk => hconsumer ((isMti_iff_fields f.id 1 0x06).2 ⟨hff, hk⟩)⟩

/-! ### The rows against `classify` -/

theorem exec_eq_classify {i : Instr} {f : CanFrame} {s : State} {d : DecodedFrame}
    (hi : exec i s = .next (s.returnClass d)) (hd : classify f = d) :
    exec i s = exec (.classify f) s := by
  rw [hi, ← hd]
  rfl

/-- The frame of a frame word is that word's only frame. -/
theorem frameWord_inj {f g : CanFrame} (h : frameWord f = frameWord g) : f = g := by
  have hf := frameOfWord_frameWord f
  rw [h, frameOfWord_frameWord] at hf
  exact (Except.ok.inj hf).symm

/-- A well-formed classification row does what `CLASSIFY` of its frame does. -/
theorem exec_row_eq_classify {i : Instr} {f : CanFrame} (s : State) (hwf : i.wellFormed = true)
    (hop : (encode i).1 ≠ .op) (hf : (encode i).2 = frameWord f) :
    exec i s = exec (.classify f) s := by
  cases i
  case reset | push | pop | dropCount | classify | notify | consumeIter => exact absurd rfl hop
  all_goals obtain rfl := frameWord_inj hf
  case rid | amd | ame | amr | eir0 | eir1 | eir2 | eir3 =>
    exact exec_eq_classify rfl (classify_named hwf (by decide))
  case ctrlReserved1000 =>
    exact exec_eq_classify rfl (classify_of_isControl (c := 0x1000) hwf).2
  case cidHi g =>
    obtain ⟨hfam, hlo⟩ := (wellFormed_cidHi_iff g).1 hwf
    exact exec_eq_classify rfl (classify_checkId hfam (by omega))
  case cidMid g =>
    obtain ⟨hfam, hlo, -⟩ := (wellFormed_cidMid_iff g).1 hwf
    exact exec_eq_classify rfl (classify_checkId hfam (by omega))
  case cidLo g =>
    obtain ⟨hfam, hlo, -⟩ := (wellFormed_cidLo_iff g).1 hwf
    exact exec_eq_classify rfl (classify_checkId hfam hlo)
  case ctrlReserved => exact exec_eq_classify rfl (classify_ctrlReserved hwf)
  case olcbReserved0 | olcbDatagramComplete | olcbDatagramFirst | olcbDatagramMiddle
      | olcbDatagramFinal | olcbReserved6 | olcbStreamData =>
    exact exec_eq_classify rfl (classify_plain hwf (by decide))
  case olcbGlobalAddressedMti => exact exec_eq_classify rfl (classify_formatOne hwf)
  case mtiInitializationComplete =>
    exact exec_eq_classify rfl (classify_initializationComplete hwf)
  case mtiConsumerIdentifiedValid =>
    exact exec_eq_classify rfl (classify_consumerIdentified 0 hwf)
  case mtiConsumerIdentifiedInvalid =>
    exact exec_eq_classify rfl (classify_consumerIdentified 1 hwf)
  case mtiNone => exact exec_eq_classify rfl (classify_consumerIdentified 2 hwf)
  case mtiConsumerIdentifiedUnknown =>
    exact exec_eq_classify rfl (classify_consumerIdentified 3 hwf)
  case mtiUndeciphered => exact exec_eq_classify rfl (classify_undeciphered hwf)

/-- Settles O9: what the table selects is well formed and carries the frame. -/
theorem tableRowsAgreeWithClassify : Obligations.TableRowsAgreeWithClassify := by
  rintro f i s (h | h)
  · obtain ⟨hwf, he⟩ := decodeFrame_ok h
    exact exec_row_eq_classify s hwf (by simp [he]) (by rw [he])
  · obtain ⟨hwf, he⟩ := decodeMti_ok h
    exact exec_row_eq_classify s hwf (by simp [he]) (by rw [he])

/-! ### The node identifier -/

/-- The six lanes are the six bytes, byte 0 first (R53). -/
theorem lanes_eq_append (b₀ b₁ b₂ b₃ b₄ b₅ : Byte) :
    lane b₀ 40 ||| lane b₁ 32 ||| lane b₂ 24 ||| lane b₃ 16 ||| lane b₄ 8 ||| lane b₅ 0 =
      b₀ ++ b₁ ++ b₂ ++ b₃ ++ b₄ ++ b₅ := by
  rw [← place_full (b₀ ++ b₁ ++ b₂ ++ b₃ ++ b₄ ++ b₅), place_append, place_append, place_append,
    place_append, place_append]
  rfl

theorem nodeAddress_of_dlc_six {f : CanFrame} (h : f.dlc = 6) :
    nodeAddressValid f = 1 ∧
      nodeAddress f = f.payload.b0 ++ f.payload.b1 ++ f.payload.b2 ++ f.payload.b3 ++
        f.payload.b4 ++ f.payload.b5 := by
  have hb : (f.dlc == 6) = true := beq_iff_eq.2 h
  rw [nodeAddressValid, nodeAddress, if_pos hb, if_pos hb]
  exact ⟨rfl, lanes_eq_append ..⟩

theorem nodeAddress_of_dlc_ne_six {f : CanFrame} (h : f.dlc ≠ 6) :
    nodeAddressValid f = 0 ∧ nodeAddress f = 0 := by
  have hb : ¬(f.dlc == 6) = true := mt beq_iff_eq.1 h
  rw [nodeAddressValid, nodeAddress, if_neg hb, if_neg hb]
  exact ⟨rfl, rfl⟩

/-- Settles O14: the detail is that of every format-1 frame, and of no other kind. -/
theorem nodeIdentifierIsBigEndian : Obligations.NodeIdentifierIsBigEndian := by
  intro f
  refine ⟨fun h => ⟨_, classify_formatOne ((and_format_eq_one_iff _).1 h), nodeAddress_of_dlc_six,
    nodeAddress_of_dlc_ne_six⟩, fun h => ?_⟩
  replace h := mt (and_format_eq_one_iff _).2 h
  obtain ⟨-, hd⟩ | ⟨ff, -, -, hd⟩ | ⟨hff, -⟩ := classify_cases f
  · exact .inl ⟨_, hd⟩
  · exact .inr ⟨_, _, hd⟩
  · exact absurd hff h

end Sys2Proof.Machine
end

section
/-! PROOFS. The flat record (R93): its layout, and that a report is read back from it. -/

namespace Sys2Proof.Machine

theorem contentOfCode_contentCode (k : ContentClass) :
    contentOfCode (contentCode k) = some k := by
  cases k <;> rfl

theorem mtiOfCode_mtiCode (k : MtiClass) : mtiOfCode (mtiCode k) = some k := by
  cases k <;> rfl

/-! ### The layout, by the tag -/

theorem flatRecord_control_layout (c : ControlFrame) :
    let v := flatRecord (.control c)
    v.extractLsb' 0 1 = 0 ∧ v.extractLsb' 1 15 = c.content ∧
    v.extractLsb' 16 4 = contentCode c.contentClass ∧ v.extractLsb' 20 3 = c.frameSeqNum ∧
    v.extractLsb' 23 12 = c.sourceNidAlias ∧ v.extractLsb' 35 91 = 0 := by
  simp [flatRecord, BitVec.extractLsb'_or, slice_place, slice_place_of_disjoint]

theorem flatRecord_plain_layout (ff : BitVec 3) (k : FormatClass) :
    let v := flatRecord (.openLcb ⟨ff, k, none⟩)
    v.extractLsb' 0 1 = 1 ∧ v.extractLsb' 1 34 = 0 ∧ v.extractLsb' 35 3 = ff ∧
    v.extractLsb' 38 88 = 0 := by
  simp [flatRecord, detailFlat, BitVec.extractLsb'_or, slice_place, slice_place_of_disjoint]

theorem flatRecord_detail_layout (ff : BitVec 3) (k : FormatClass) (m : Mti) :
    let v := flatRecord (.openLcb ⟨ff, k, some m⟩)
    v.extractLsb' 0 1 = 1 ∧ v.extractLsb' 1 34 = 0 ∧ v.extractLsb' 35 3 = ff ∧
    mtiOfFlat v m.mtiClass = m ∧ v.extractLsb' 123 3 = mtiCode m.mtiClass := by
  simp [flatRecord, detailFlat, mtiFlat, mtiOfFlat, BitVec.extractLsb'_or, slice_place,
    slice_place_of_disjoint]

/-! ### Read back -/

theorem ofFlatRecord_control (c : ControlFrame) :
    ofFlatRecord (flatRecord (.control c)) = some (.control c) := by
  obtain ⟨htag, hcontent, hclass, hseq, hnid, -⟩ := flatRecord_control_layout c
  simp [ofFlatRecord, htag, hcontent, hclass, hseq, hnid, contentOfCode_contentCode]

theorem ofFlatRecord_plain {ff : BitVec 3} (h : ff ≠ 1) :
    ofFlatRecord (flatRecord (plainResult ff (formatClassOf ff))) =
      some (plainResult ff (formatClassOf ff)) := by
  obtain ⟨htag, -, hff, -⟩ := flatRecord_plain_layout ff (formatClassOf ff)
  rw [plainResult, ofFlatRecord, htag, hff]
  simpa [plainResult] using h

theorem ofFlatRecord_detail (m : Mti) :
    ofFlatRecord (flatRecord (.openLcb ⟨1, .globalAddressedMti, some m⟩)) =
      some (.openLcb ⟨1, .globalAddressedMti, some m⟩) := by
  obtain ⟨htag, -, hff, hm, hclass⟩ := flatRecord_detail_layout 1 .globalAddressedMti m
  rw [ofFlatRecord, htag, hff, hclass, mtiOfCode_mtiCode]
  exact congrArg (fun d => some (DecodedFrame.openLcb ⟨1, .globalAddressedMti, some d⟩)) hm

/-- Settles O22: the layout by the tag, and each kind of report read back. -/
theorem flatRecordLayout : Obligations.FlatRecordLayout := by
  refine ⟨flatRecord_control_layout, flatRecord_plain_layout, fun ff k m => ?_, fun f => ?_⟩
  · obtain ⟨htag, hzero, hff, hm, hclass⟩ := flatRecord_detail_layout ff k m
    exact ⟨htag, hzero, hff, congrArg Mti.mti hm, congrArg Mti.grossPriority hm,
      congrArg Mti.typeWithinPriority hm, congrArg Mti.simpleProtocol hm,
      congrArg Mti.addressPresent hm, congrArg Mti.eventPresent hm,
      congrArg Mti.messageModifier hm, congrArg Mti.sourceAddress hm,
      congrArg Mti.nodeAddressValid hm, congrArg Mti.nodeAddress hm, hclass⟩
  · obtain ⟨-, hd⟩ | ⟨ff, hne, -, hd⟩ | ⟨-, hd⟩ := classify_cases f <;> rw [hd]
    · exact ofFlatRecord_control _
    · exact ofFlatRecord_plain hne
    · exact ofFlatRecord_detail _

end Sys2Proof.Machine
end

section
/-! PROOFS. The micro-steps by the agent's phase (R132, R138), and the operations that begin with one:
what refuses them, and their first micro-step. -/

namespace Sys2Proof.Machine

/-! ### The producer's micro-step, by its phase -/

/-- The full test as R131 writes it. -/
theorem fullAt_iff_masked {p : Params} {push pull : Nat} :
    fullAt p push pull = true ↔ (push + 1) &&& p.mask = pull &&& p.mask := by
  simp [fullAt, slotIndex]

theorem fullAt_eq_false_iff_masked {p : Params} {push pull : Nat} :
    fullAt p push pull = false ↔ (push + 1) &&& p.mask ≠ pull &&& p.mask := by
  rw [Bool.eq_false_iff, Ne, fullAt_iff_masked]

theorem producerStep_of_idle {s : State} (h : s.producer = .idle) : producerStep s = s := by
  simp [producerStep, h]

theorem producerStep_of_full {s : State} {c : PushCaller} {f : CanFrame} {q : Nat}
    (h : s.producer = .loaded c f q) (hfull : fullAt s.params s.pushPosition q = true) :
    producerStep s = pushDrop c s := by
  simp [producerStep, h, hfull]

theorem producerStep_of_room {s : State} {c : PushCaller} {f : CanFrame} {q : Nat}
    (h : s.producer = .loaded c f q) (hroom : fullAt s.params s.pushPosition q = false) :
    producerStep s = pushWrite c f q s := by
  simp [producerStep, h, hroom]

theorem producerStep_of_written {s : State} {c : PushCaller} {f : CanFrame} {q : Nat}
    (h : s.producer = .written c f q) : producerStep s = pushPublish c f s := by
  simp [producerStep, h]

/-- A push that drops has returned (R134). -/
@[simp] theorem pushDrop_producer (c : PushCaller) (s : State) : (pushDrop c s).producer = .idle := by
  simp [pushDrop]

@[simp] theorem pushWrite_producer (c : PushCaller) (f : CanFrame) (q : Nat) (s : State) :
    (pushWrite c f q s).producer = .written c f q := rfl

/-- A push that has published has returned (R136). -/
@[simp] theorem pushPublish_producer (c : PushCaller) (f : CanFrame) (s : State) :
    (pushPublish c f s).producer = .idle := by
  simp [pushPublish]

/-- A push that ends returns `ok` to `PUSH`'s caller only (R131, R230). -/
theorem State.returnPush_eq (s : State) (c : PushCaller) (ok : Bool) :
    s.returnPush c ok = { s with
      returns := if c = .push then { s.returns with push := some ok } else s.returns } := by
  cases c <;> rfl

/-! ### The consumer's micro-step, by its phase -/

theorem consumerStep_of_idle {s : State} (ha : s.consumerAdmitted = true) (h : s.consumer = .idle) :
    consumerStep s = .next s := by
  simp [consumerStep, ha, h]

theorem consumerStep_of_loaded {s : State} {c : PopCaller} {p : Nat}
    (ha : s.consumerAdmitted = true) (h : s.consumer = .loaded c p) :
    consumerStep s = popRead c p s := by
  simp [consumerStep, ha, h]

theorem consumerStep_of_read {s : State} {c : PopCaller} {p : Nat} {g : CanFrame}
    (ha : s.consumerAdmitted = true) (h : s.consumer = .read c p g) :
    consumerStep s = .next (popAdvance c g s) := by
  simp [consumerStep, ha, h]

theorem consumerStep_of_reporting {s : State} {g : CanFrame}
    (ha : s.consumerAdmitted = true) (h : s.consumer = .reporting g) :
    consumerStep s = .next (reportStep g s) := by
  simp [consumerStep, ha, h]

theorem popRead_of_some {s : State} {g : CanFrame} (c : PopCaller) (p : Nat)
    (h : s.slotRead s.pullSlot = some g) :
    popRead c p s = .next { s with consumer := .read c p g } := by
  simp [popRead, h]

theorem popRead_of_none {s : State} (c : PopCaller) (p : Nat) (h : s.slotRead s.pullSlot = none) :
    popRead c p s = .fault (.unwrittenSlot s.pullSlot) := by
  simp [popRead, h]

theorem popLoad_of_empty {s : State} (c : PopCaller) (h : s.pushPosition = s.pullPosition) :
    popLoad c s = s.inUse.returnEmpty c :=
  if_pos ((emptyAt_iff _ _).2 h)

theorem popLoad_of_nonempty {s : State} (c : PopCaller) (h : s.pushPosition ≠ s.pullPosition) :
    popLoad c s = { s.inUse with consumer := .loaded c s.pushPosition } :=
  if_neg (mt (emptyAt_iff _ _).1 h)

/-- The admission looks at the schedule and the producer only (R11). -/
theorem State.consumerAdmitted_congr {s t : State} (hs : t.sched = s.sched)
    (hp : t.producer = s.producer) : t.consumerAdmitted = s.consumerAdmitted := by
  simp [State.consumerAdmitted, hs, hp]

/-! ### The operations of an agent -/

/-- The operation that calls a push (R131, R230). -/
def PushCaller.operation (f : CanFrame) : PushCaller → Instr
  | .push => .push f
  | .notify => .notify Config.reasonRx f

/-- The operation that calls a pop (R137, R232). -/
def PopCaller.operation : PopCaller → Instr
  | .pop => .pop
  | .consumeIter => .consumeIter

theorem PushCaller.exists_operation {i : Instr} {f : CanFrame}
    (h : i = .push f ∨ i = .notify .rx f) : ∃ c : PushCaller, i = c.operation f := by
  rcases h with rfl | rfl
  · exact ⟨.push, rfl⟩
  · exact ⟨.notify, rfl⟩

theorem PopCaller.exists_operation {i : Instr} (h : i = .pop ∨ i = .consumeIter) :
    ∃ c : PopCaller, i = c.operation := by
  rcases h with rfl | rfl
  · exact ⟨.pop, rfl⟩
  · exact ⟨.consumeIter, rfl⟩

theorem startOp_pushOperation {s : State} (c : PushCaller) (f : CanFrame)
    (h : s.pushRefusal = none) : startOp (c.operation f) s = .next (pushLoad c f s) := by
  cases c <;> simp [PushCaller.operation, startOp, beginPush, beginNotify, h]

theorem exec_pushOperation {s : State} (c : PushCaller) (f : CanFrame) (h : s.pushRefusal = none) :
    exec (c.operation f) s = .next (pushWhole c f s) := by
  cases c <;> simp [PushCaller.operation, exec, execPush, execNotify, h]

theorem startOp_popOperation {s : State} (c : PopCaller) (h : s.popRefusal = none) :
    startOp c.operation s = .next (popLoad c s) := by
  cases c <;> simp [PopCaller.operation, startOp, beginPop, h]

/-- A `NOTIFY` of another reason, where a push may begin, is one step that changes nothing (R230). -/
theorem notify_other {s : State} {r : Reason} (f : CanFrame) (hr : r ≠ Config.reasonRx)
    (h : s.pushRefusal = none) :
    exec (.notify r f) s = .next s ∧ startOp (.notify r f) s = .next s := by
  simp [exec, execNotify, startOp, beginNotify, h, hr]

/-- An operation that begins with a push is refused, run whole or started, for the reason the push is. -/
theorem pushOperations_refused {s : State} {e : Refusal} (r : Reason) (f : CanFrame)
    (h : s.pushRefusal = some e) :
    exec (.push f) s = .refused e ∧ exec (.notify r f) s = .refused e ∧
      startOp (.push f) s = .refused e ∧ startOp (.notify r f) s = .refused e := by
  simp [exec, execPush, execNotify, startOp, beginPush, beginNotify, h]

theorem notify_refused {s : State} {e : Refusal} (r : Reason) (f : CanFrame)
    (h : s.pushRefusal = some e) :
    exec (.notify r f) s = .refused e ∧ startOp (.notify r f) s = .refused e := by
  obtain ⟨-, hexec, -, hstart⟩ := pushOperations_refused r f h
  exact ⟨hexec, hstart⟩

theorem pushOperation_refused {s : State} {e : Refusal} (c : PushCaller) (f : CanFrame)
    (h : s.pushRefusal = some e) :
    exec (c.operation f) s = .refused e ∧ startOp (c.operation f) s = .refused e := by
  obtain ⟨hpush, hnotify, hpush', hnotify'⟩ := pushOperations_refused Config.reasonRx f h
  cases c with
  | push => exact ⟨hpush, hpush'⟩
  | notify => exact ⟨hnotify, hnotify'⟩

theorem popOperation_refused {s : State} {e : Refusal} (c : PopCaller) (h : s.popRefusal = some e) :
    exec c.operation s = .refused e ∧ startOp c.operation s = .refused e := by
  obtain ⟨hpop, hiter, hpop', hiter'⟩ := popOperations_refused h
  cases c with
  | pop => exact ⟨hpop, hpop'⟩
  | consumeIter => exact ⟨hiter, hiter'⟩

/-- Inside a push none begins (R151 (a)). -/
theorem State.pushRefusal_of_nested {s : State} (hb : s.built = true) (hp : s.producer ≠ .idle) :
    s.pushRefusal = some .nestedPush := by
  have hidle : s.producer.isIdle = false := Bool.eq_false_iff.2 (mt Producer.isIdle_iff.1 hp)
  simp [State.pushRefusal, hb, hidle]

/-- Inside a pop none begins (R151 (b)). -/
theorem State.popRefusal_of_nested {s : State} (hb : s.built = true) (hc : s.consumer ≠ .idle) :
    s.popRefusal = some .nestedPop := by
  have hidle : s.consumer.isIdle = false := Bool.eq_false_iff.2 (mt Consumer.isIdle_iff.1 hc)
  simp [State.popRefusal, hb, hidle]

/-- Before construction nothing begins (R284). -/
theorem State.refusals_of_unbuilt {s : State} (h : s.lifecycle = .unbuilt) :
    s.pushRefusal = some .notConstructed ∧ s.popRefusal = some .notConstructed := by
  simp [State.pushRefusal, State.popRefusal, State.built, h]

/-! ### The obligations -/

/-- Settles O34, a lemma for each phase of the producer. -/
theorem producerMicroSteps : Obligations.ProducerMicroSteps := by
  intro f s
  refine ⟨fun hb hp => ?_, fun c q hp hfull => ?_, fun c q hp hroom => ?_, fun c q hp => ?_⟩
  · have hbegin := State.pushRefusal_eq_none.2 ⟨hb, hp⟩
    exact ⟨startOp_pushOperation .push f hbegin, startOp_pushOperation .notify f hbegin,
      fun r hr => (notify_other f hr hbegin).2⟩
  · rw [producerStep_of_full hp (fullAt_iff_masked.2 hfull)]
    exact State.returnPush_eq _ c false
  · exact producerStep_of_room hp (fullAt_eq_false_iff_masked.2 hroom)
  · rw [producerStep_of_written hp]
    exact State.returnPush_eq _ c true

/-- Settles O35, a lemma for each phase of the consumer. -/
theorem consumerMicroSteps : Obligations.ConsumerMicroSteps := by
  intro s ha
  refine ⟨fun hb hc => ?_, fun p g hc hg => ?_, fun p g hc => consumerStep_of_read ha hc⟩
  · have hload := startOp_popOperation .pop (State.popRefusal_eq_none.2 ⟨hb, hc, ha⟩)
    exact ⟨fun he => hload.trans (congrArg _ (popLoad_of_empty .pop he)),
      fun hne => hload.trans (congrArg _ (popLoad_of_nonempty .pop hne))⟩
  · rw [consumerStep_of_loaded ha hc, popRead_of_some .pop p hg]

/-- Settles O53: each condition gives the refusal, and the operations are refused for it. -/
theorem useOutsideTheDisciplineIsRefused : Obligations.UseOutsideTheDisciplineIsRefused := by
  intro f r s
  refine ⟨fun hb hp => pushOperations_refused r f (State.pushRefusal_of_nested hb hp),
    fun hb hc => popOperations_refused (State.popRefusal_of_nested hb hc), fun hu => ?_⟩
  obtain ⟨hpush, hpop⟩ := State.refusals_of_unbuilt hu
  obtain ⟨hp, hn, hp', hn'⟩ := pushOperations_refused r f hpush
  obtain ⟨ho, hi, ho', hi'⟩ := popOperations_refused hpop
  have hdrop : exec .dropCount s = .refused .notConstructed := by
    simp [exec, execDropCount, State.built, hu]
  exact ⟨hp, hn, ho, hi, hdrop, hp', hn', ho', hi', hdrop⟩

end Sys2Proof.Machine
end

section
/-! PROOFS. The queue's operations run whole (R131, R137, R142), and that a push or a pop run whole is
its micro-steps with nothing between them (R131, R132, R138). -/

namespace Sys2Proof.Machine

/-! ### The operations, run whole -/

theorem pushWhole_of_full {s : State} (c : PushCaller) (f : CanFrame) (h : s.full = true) :
    pushWhole c f s = s.inUse.dropFrame.returnPush c false := if_pos h

theorem pushWhole_of_room {s : State} (c : PushCaller) (f : CanFrame) (h : s.full = false) :
    pushWhole c f s = ((s.inUse.slotWrite s.pushSlot f).publish f).returnPush c true :=
  if_neg (Bool.eq_false_iff.1 h)

/-- What a pop does with the frame `g` of its slot: one advance, and `g` handed back (R137), or
classified and reported (R232). -/
def popTake (c : PopCaller) (g : CanFrame) (s : State) : State :=
  match c with
  | .pop => (s.advance g).returnFrame g
  | .consumeIter => (s.advance g).report (classify g)

theorem exec_popOperation_of_empty {s : State} (c : PopCaller) (h : s.popRefusal = none)
    (he : s.pushPosition = s.pullPosition) :
    exec c.operation s = .next (s.inUse.returnEmpty c) := by
  cases c <;> simp [PopCaller.operation, exec, execPop, execConsumeIter, h, emptyAt, State.loadPush, he]

theorem exec_popOperation_of_some {s : State} {g : CanFrame} (c : PopCaller)
    (h : s.popRefusal = none) (hne : s.pushPosition ≠ s.pullPosition)
    (hg : s.slotRead s.pullSlot = some g) : exec c.operation s = .next (popTake c g s.inUse) := by
  cases c <;>
    simp [PopCaller.operation, popTake, exec, execPop, execConsumeIter, h, emptyAt, State.loadPush,
      hne, hg]

theorem exec_popOperation_of_none {s : State} (c : PopCaller) (h : s.popRefusal = none)
    (hne : s.pushPosition ≠ s.pullPosition) (hg : s.slotRead s.pullSlot = none) :
    exec c.operation s = .fault (.unwrittenSlot s.pullSlot) := by
  cases c
  · exact (popOperations_fault h hne hg).1
  · exact (popOperations_fault h hne hg).2

/-- Settles O23: a push that may begin drops or stores, by the full test. -/
theorem pushStoresOrDrops : Obligations.PushStoresOrDrops := by
  intro f s hb hp
  have hpush : exec (.push f) s = .next (pushWhole .push f s) :=
    exec_pushOperation .push f (State.pushRefusal_eq_none.2 ⟨hb, hp⟩)
  refine ⟨fun hfull => hpush.trans (congrArg _ ?_), fun hroom => hpush.trans (congrArg _ ?_)⟩
  · exact pushWhole_of_full .push f (fullAt_iff_masked.2 hfull)
  · exact pushWhole_of_room .push f (fullAt_eq_false_iff_masked.2 hroom)

/-- Settles O24: a pop that may begin finds the queue empty or a frame in its slot. -/
theorem popTakesTheSlotAtPullPosition : Obligations.PopTakesTheSlotAtPullPosition := by
  intro s hb hc ha
  have hbegin := State.popRefusal_eq_none.2 ⟨hb, hc, ha⟩
  exact ⟨exec_popOperation_of_empty .pop hbegin,
    fun _ hne hg => exec_popOperation_of_some .pop hbegin hne hg⟩

/-- Settles O26: `DROPCOUNT` asks for a queue and looks at neither agent. -/
theorem dropCountIsReadAtAnyTime : Obligations.DropCountIsReadAtAnyTime :=
  fun _ hb => if_pos hb

/-- A push that goes on was one that may begin. -/
theorem exec_pushOperation_next {s t : State} {c : PushCaller} {f : CanFrame}
    (h : exec (c.operation f) s = .next t) : s.pushRefusal = none ∧ t = pushWhole c f s := by
  cases hr : s.pushRefusal with
  | some e => simp [(pushOperation_refused c f hr).1] at h
  | none =>
    rw [exec_pushOperation c f hr] at h
    exact ⟨rfl, (Host.Outcome.next.inj h).symm⟩

/-- Settles O29: a drop changes no slot, a store the slot at `pushPosition & MASK` only. -/
theorem pushFrameOfSlots : Obligations.PushFrameOfSlots := by
  intro f i s t hi ht
  obtain ⟨c, rfl⟩ := PushCaller.exists_operation hi
  obtain ⟨-, rfl⟩ := exec_pushOperation_next ht
  cases hfull : s.full with
  | true =>
    have hread : ∀ a, (pushWhole c f s).slotRead a = s.slotRead a :=
      State.slotRead_congr (by simp [pushWhole_of_full c f hfull])
    exact ⟨fun a _ => hread a, fun _ => hread, nofun, by simp [pushWhole_of_full c f hfull]⟩
  | false =>
    have hread : ∀ a, (pushWhole c f s).slotRead a = (s.slotWrite s.pushSlot f).slotRead a :=
      State.slotRead_congr (by simp [pushWhole_of_room c f hfull])
    exact ⟨fun a ha => (hread a).trans (s.slotRead_slotWrite_ne f ha), nofun,
      fun _ => (hread _).trans (s.slotRead_slotWrite_same s.pushSlot f),
      by simp [pushWhole_of_room c f hfull]⟩

/-! ### Whole, and by micro-steps -/

/-- A push run whole is its load and two more micro-steps of the producer (R131, R132). -/
theorem producerSteps_pushLoad (c : PushCaller) (f : CanFrame) {s : State}
    (hp : s.producer = .idle) : producerSteps 2 (pushLoad c f s) = pushWhole c f s := by
  have hl : (pushLoad c f s).producer = .loaded c f s.pullPosition := rfl
  have hstay : { s.inUse with producer := .idle } = s.inUse := by rw [← hp]; rfl
  show producerStep (producerStep (pushLoad c f s)) = pushWhole c f s
  cases hfull : s.full with
  | true =>
    rw [producerStep_of_full hl hfull, producerStep_of_idle (pushDrop_producer c _),
      pushWhole_of_full c f hfull, ← hstay]
    rfl
  | false =>
    rw [producerStep_of_room hl hfull, producerStep_of_written (pushWrite_producer c f _ _),
      pushWhole_of_room c f hfull, ← hstay]
    rfl

/-- Settles O37: begun alike, refused alike, and the micro-steps of a push that begins. -/
theorem wholePushIsItsMicroSteps : Obligations.WholePushIsItsMicroSteps := by
  intro f i s hi
  obtain ⟨c, rfl⟩ := PushCaller.exists_operation hi
  cases hr : s.pushRefusal with
  | some e =>
    obtain ⟨hexec, hstart⟩ := pushOperation_refused c f hr
    simp [hexec, hstart]
  | none =>
    have hp := (State.pushRefusal_eq_none.1 hr).2
    simp [exec_pushOperation c f hr, startOp_pushOperation c f hr, producerSteps_pushLoad c f hp]

theorem consumerSteps_succ_of_next {s t : State} (n : Nat) (h : consumerStep s = .next t) :
    consumerSteps (n + 1) s = consumerSteps n t := by
  simp [consumerSteps, h]

theorem consumerSteps_succ_of_fault {s : State} {e : Fault} (n : Nat)
    (h : consumerStep s = .fault e) : consumerSteps (n + 1) s = .fault e := by
  simp [consumerSteps, h]

/-- The slots given to an idle consumer change nothing (log entry 10). -/
theorem consumerSteps_of_idle {s : State} (ha : s.consumerAdmitted = true) (hc : s.consumer = .idle) :
    ∀ n, consumerSteps n s = .next s
  | 0 => rfl
  | n + 1 => by
    rw [consumerSteps_succ_of_next n (consumerStep_of_idle ha hc), consumerSteps_of_idle ha hc n]

/-- Past its load, its slot written, a pop reads and advances with two micro-steps (R140, R141). -/
theorem consumerSteps_read_advance (n : Nat) {s : State} {c : PopCaller} {p : Nat} {g : CanFrame}
    (ha : s.consumerAdmitted = true) (hl : s.consumer = .loaded c p)
    (hg : s.slotRead s.pullSlot = some g) :
    consumerSteps (n + 2) s = consumerSteps n (popAdvance c g { s with consumer := .read c p g }) := by
  have hread := (consumerStep_of_loaded ha hl).trans (popRead_of_some c p hg)
  have hadvance := consumerStep_of_read (s := { s with consumer := .read c p g }) ha rfl
  rw [consumerSteps_succ_of_next (n + 1) hread, consumerSteps_succ_of_next n hadvance]

/-- It has then returned, within three micro-steps: the iteration's third is its report (R232). -/
theorem consumerSteps_of_loaded {s : State} {c : PopCaller} {p : Nat} {g : CanFrame}
    (ha : s.consumerAdmitted = true) (hl : s.consumer = .loaded c p)
    (hg : s.slotRead s.pullSlot = some g) :
    consumerSteps 3 s = .next { popTake c g s with consumer := .idle } := by
  rw [consumerSteps_read_advance 1 ha hl hg]
  cases c with
  | pop => exact consumerSteps_of_idle (s := popAdvance .pop g _) ha rfl 1
  | consumeIter =>
    exact consumerSteps_succ_of_next 0
      (consumerStep_of_reporting (s := popAdvance .consumeIter g _) ha rfl)

/-- A pop, or an iteration, run whole is its load and three more micro-steps of the consumer. -/
theorem consumerSteps_popLoad (c : PopCaller) {s : State} (h : s.popRefusal = none) :
    consumerSteps 3 (popLoad c s) = exec c.operation s := by
  obtain ⟨-, hc, ha⟩ := State.popRefusal_eq_none.1 h
  have hadmitted : (popLoad c s).consumerAdmitted = true := by
    rw [State.consumerAdmitted_congr (s := s) ?_ (popLoad_sameProducerPart c s).producer, ha]
    unfold popLoad
    split <;> simp
  by_cases he : s.pushPosition = s.pullPosition
  · rw [exec_popOperation_of_empty c h he, ← popLoad_of_empty c he]
    exact consumerSteps_of_idle hadmitted (by simpa [popLoad_of_empty c he] using hc) 3
  · rw [popLoad_of_nonempty c he] at hadmitted ⊢
    cases hg : s.slotRead s.pullSlot with
    | none =>
      rw [exec_popOperation_of_none c h he hg]
      exact consumerSteps_succ_of_fault 2
        ((consumerStep_of_loaded hadmitted rfl).trans (popRead_of_none c _ hg))
    | some g =>
      have hstay : { s.inUse with consumer := .idle } = s.inUse := by rw [← hc]; rfl
      rw [exec_popOperation_of_some c h he hg, consumerSteps_of_loaded hadmitted rfl hg, ← hstay]
      cases c <;> rfl

/-- Settles O38: begun alike, refused alike, and the micro-steps of a pop that begins. -/
theorem wholePopIsItsMicroSteps : Obligations.WholePopIsItsMicroSteps := by
  intro i s hi
  obtain ⟨c, rfl⟩ := PopCaller.exists_operation hi
  cases hr : s.popRefusal with
  | some e =>
    obtain ⟨hexec, hstart⟩ := popOperation_refused c hr
    simp [hexec, hstart]
  | none => simp [startOp_popOperation c hr, consumerSteps_popLoad c hr]

end Sys2Proof.Machine
end

section
/-! PROOFS. One induction for every invariant: what the construction and each micro-step keep, every
step keeps, since an operation run whole is its micro-steps. -/

namespace Sys2Proof.Machine

/-- `P` is kept by the construction, by each micro-step of either agent where it may be taken (R133 to
R136, R139 to R141, R232), and by what touches the lifecycle, the pending moves and the returned values
only. -/
structure KeptByMicroSteps (P : State → Prop) : Prop where
  congr : ∀ {s t}, P s → s.SameQueue t → (s.lifecycle = .running → t.lifecycle = .running) → P t
  construct : ∀ {s p}, P s → s.lifecycle ≠ .running → p.Legal → P (s.construct p)
  pushLoad : ∀ {s} c f, P s → s.producer = .idle → P (pushLoad c f s)
  pushDrop : ∀ {s c f q}, P s → s.producer = .loaded c f q →
    fullAt s.params s.pushPosition q = true → P (pushDrop c s)
  pushWrite : ∀ {s c f q}, P s → s.producer = .loaded c f q →
    fullAt s.params s.pushPosition q = false → P (pushWrite c f q s)
  pushPublish : ∀ {s c f q}, P s → s.producer = .written c f q → P (pushPublish c f s)
  popLoaded : ∀ {s} c, P s → s.consumer = .idle → s.pushPosition ≠ s.pullPosition →
    P { s.inUse with consumer := .loaded c s.pushPosition }
  popRead : ∀ {s c p g}, P s → s.consumer = .loaded c p → s.slotRead s.pullSlot = some g →
    P { s with consumer := .read c p g }
  popAdvance : ∀ {s c p g}, P s → s.consumer = .read c p g → P (popAdvance c g s)
  report : ∀ {s g}, P s → s.consumer = .reporting g → P (reportStep g s)

theorem State.sameQueue_inUse (s : State) : s.SameQueue s.inUse :=
  ⟨rfl, rfl, rfl, rfl, rfl, rfl, rfl, rfl, rfl, rfl⟩

theorem State.sameQueue_returnEmpty (s : State) (c : PopCaller) : s.SameQueue (s.returnEmpty c) := by
  constructor <;> simp

namespace KeptByMicroSteps

variable {P : State → Prop} (h : KeptByMicroSteps P) {s t : State}
include h

theorem producerStep (hs : P s) : P (producerStep s) := by
  rcases producerStep_cases s with
    ⟨-, e⟩ | ⟨c, f, q, hp, hfull, e⟩ | ⟨c, f, q, hp, hroom, e⟩ | ⟨c, f, q, hp, e⟩ <;> rw [e]
  · exact hs
  · exact h.pushDrop hs hp hfull
  · exact h.pushWrite hs hp hroom
  · exact h.pushPublish hs hp

theorem consumerStep (hs : P s) (hstep : consumerStep s = .next t) : P t := by
  obtain ⟨-, ⟨-, rfl⟩ | ⟨c, p, g, hc, hg, rfl⟩ | ⟨c, p, g, hc, rfl⟩ | ⟨g, hc, rfl⟩⟩ :=
    consumerStep_cases hstep
  · exact hs
  · exact h.popRead hs hc hg
  · exact h.popAdvance hs hc
  · exact h.report hs hc

theorem consumerSteps : ∀ {n : Nat} {s : State}, P s → consumerSteps n s = .next t → P t
  | 0, _, hs, hsteps => Host.Outcome.next.inj hsteps ▸ hs
  | n + 1, s, hs, hsteps => by
    unfold Machine.consumerSteps at hsteps
    split at hsteps
    · next u hu => exact consumerSteps (h.consumerStep hs hu) hsteps
    · cases hsteps
    · cases hsteps

theorem popLoad (c : PopCaller) (hs : P s) (hc : s.consumer = .idle) :
    P (Machine.popLoad c s) := by
  by_cases he : s.pushPosition = s.pullPosition
  · rw [popLoad_of_empty c he]
    exact h.congr hs (s.sameQueue_inUse.trans (s.inUse.sameQueue_returnEmpty c)) (by simp)
  · rw [popLoad_of_nonempty c he]
    exact h.popLoaded c hs hc he

theorem pushWhole (c : PushCaller) (f : CanFrame) (hs : P s) (hp : s.producer = .idle) :
    P (pushWhole c f s) := by
  rw [← producerSteps_pushLoad c f hp]
  exact h.producerStep (h.producerStep (h.pushLoad c f hs hp))

theorem exec_popOperation (c : PopCaller) (hs : P s) (hbegin : s.popRefusal = none)
    (hexec : exec c.operation s = .next t) : P t := by
  rw [← consumerSteps_popLoad c hbegin] at hexec
  exact h.consumerSteps (h.popLoad c hs (popRefusal_none hbegin).2.1) hexec

theorem exec {i : Instr} (hs : P s) (hexec : exec i s = .next t) : P t := by
  rcases exec_cases hexec with
    ⟨hq, -, hl⟩ | ⟨p, hl, hp, rfl⟩ | ⟨c, f, hbegin, rfl⟩ | hpop | hiter
  · exact h.congr hs hq hl
  · exact h.construct hs hl hp
  · exact h.pushWhole c f hs (pushRefusal_none hbegin).2
  · exact h.exec_popOperation .pop hs (execPop_next hpop).1 hpop
  · exact h.exec_popOperation .consumeIter hs (execConsumeIter_next hiter).1 hiter

theorem startOp {i : Instr} (hs : P s) (hstart : startOp i s = .next t) : P t := by
  rcases startOp_cases hstart with hexec | ⟨c, f, hbegin, rfl⟩ | ⟨c, hbegin, rfl⟩ | rfl
  · exact h.exec hs hexec
  · exact h.pushLoad c f hs (pushRefusal_none hbegin).2
  · exact h.popLoad c hs (popRefusal_none hbegin).2.1
  · exact hs

theorem withInputs (rest : List Input) (hs : P s) : P (s.withInputs rest) :=
  h.congr hs (s.sameQueue_withInputs rest) id

/-- What the micro-steps keep every step keeps, whoever takes it. -/
theorem step (hs : P s) (hstep : step s = .next t) : P t := by
  rcases step_cases hstep with rfl | ⟨rest, ⟨i, hexec⟩ | ⟨i, hstart⟩ | rfl | hcons⟩
  · exact hs
  · exact h.exec (h.withInputs rest hs) hexec
  · exact h.startOp (h.withInputs rest hs) hstart
  · exact h.producerStep (h.withInputs rest hs)
  · exact h.consumerStep (h.withInputs rest hs) hcons

end KeptByMicroSteps

/-! ### A queue in use -/

/-- A queue in use with these sizes and this schedule (R36, R38, R283). -/
def State.InUseWith (p : Params) (sc : Sched) (s : State) : Prop :=
  s.params = p ∧ s.sched = sc ∧ s.lifecycle = .running

theorem inUseWith_keptByMicroSteps (p : Params) (sc : Sched) :
    KeptByMicroSteps (State.InUseWith p sc) where
  congr := fun ⟨hp, hs, hl⟩ e hrun => ⟨e.params.trans hp, e.sched.trans hs, hrun hl⟩
  construct := fun ⟨_, _, hl⟩ hne _ => absurd hl hne
  pushLoad := fun _ _ ⟨hp, hs, _⟩ _ => ⟨hp, hs, rfl⟩
  pushDrop := fun h _ _ => by simpa [State.InUseWith, Machine.pushDrop] using h
  pushWrite := fun h _ _ => h
  pushPublish := fun h _ => by simpa [State.InUseWith, Machine.pushPublish] using h
  popLoaded := fun _ ⟨hp, hs, _⟩ _ _ => ⟨hp, hs, rfl⟩
  popRead := fun h _ _ => h
  popAdvance := fun {_ c _ _} h _ => by cases c <;> exact h
  report := fun h _ => h

/-- Settles O51: a step writes the push slot at most (`step_slotEffect`), and no micro-step touches the
sizes, the schedule or the lifecycle of a queue in use. -/
theorem stepWritesOnlyThePushSlot : Obligations.StepWritesOnlyThePushSlot := by
  intro s t hrun hstep
  refine ⟨fun a ha => ?_, (inUseWith_keptByMicroSteps _ _).step ⟨rfl, rfl, hrun⟩ hstep⟩
  rcases step_slotEffect hstep with e | ⟨f, e⟩ | ⟨hne, -⟩
  · exact State.slotRead_congr e a
  · exact (State.slotRead_congr (t := s.slotWrite s.pushSlot f) e a).trans
      (s.slotRead_slotWrite_ne f ha)
  · exact absurd hrun hne

end Sys2Proof.Machine
end

section
/-! PROOFS. The capacity invariant I1 to I4 (R144), micro-step by micro-step. -/

namespace Sys2Proof.Machine

/-! ### The ghost counts and the queue, update by update -/

@[simp] theorem State.pushed_publish (s : State) (f : CanFrame) :
    (s.publish f).pushed = s.pushed + 1 := List.length_append

@[simp] theorem State.popped_publish (s : State) (f : CanFrame) :
    (s.publish f).popped = s.popped := rfl

@[simp] theorem State.pushed_advance (s : State) (g : CanFrame) :
    (s.advance g).pushed = s.pushed := rfl

@[simp] theorem State.popped_advance (s : State) (g : CanFrame) :
    (s.advance g).popped = s.popped + 1 := List.length_append

theorem State.popped_le_advance (s : State) (g : CanFrame) : s.popped ≤ (s.advance g).popped :=
  s.popped_advance g ▸ Nat.le_succ _

theorem State.sameQueue_returnPush (s : State) (c : PushCaller) (ok : Bool) :
    s.SameQueue (s.returnPush c ok) := by
  constructor <;> simp

theorem State.sameQueue_returnFrame (s : State) (g : CanFrame) : s.SameQueue (s.returnFrame g) := by
  constructor <;> rfl

theorem State.sameQueue_construct (s : State) (p : Params) :
    (State.constructed p s.sched).SameQueue (s.construct p) := by
  constructor <;> rfl

/-! ### The counts, micro-step by micro-step -/

namespace State.CapacityInv

variable {s : State}

/-- The full test on a snapshot of the count `b`, said by the counts (R143 (c)). -/
theorem fullAt_iff_counts (h : s.CapacityInv) {b : Nat} :
    fullAt s.params s.pushPosition (b % 2 ^ s.params.posw) = true ↔
      (s.pushed + 1) % s.params.cap = b % s.params.cap := by
  have hpush : s.pushPosition % s.params.cap = s.pushed % s.params.cap := by
    rw [h.push_eq, mod_posw_mod_cap h.legal.1]
  rw [fullAt_iff, ← Nat.mod_add_mod, hpush, Nat.mod_add_mod, mod_posw_mod_cap h.legal.1]

/-- Not full on a snapshot within the capacity is one more slot spare. -/
theorem room_of_not_full {b : Nat} (h : s.CapacityInv) (hb : s.pushed + 1 ≤ b + s.params.cap)
    (hroom : fullAt s.params s.pushPosition (b % 2 ^ s.params.posw) = false) :
    s.pushed + 2 ≤ b + s.params.cap := by
  have hne : s.pushed + 1 ≠ b + s.params.cap := fun e =>
    Bool.eq_false_iff.1 hroom (h.fullAt_iff_counts.2 (by rw [e, Nat.add_mod_right]))
  omega

/-- A push about to write has room for its frame (R144 I3). -/
theorem room_of_write {c : PushCaller} {f : CanFrame} {q : Nat} (h : s.CapacityInv)
    (hp : s.producer = .loaded c f q) (hroom : fullAt s.params s.pushPosition q = false) :
    s.pushed + 2 ≤ s.popped + s.params.cap := by
  obtain ⟨b, rfl, hle, hb⟩ := h.snapshot_eq q (by simp [hp])
  have hspare := h.room_of_not_full hb hroom
  omega

theorem constructed {p : Params} (sc : Sched) (hp : p.Legal) :
    (State.constructed p sc).CapacityInv where
  legal := hp
  push_eq := (Nat.zero_mod _).symm
  pull_eq := (Nat.zero_mod _).symm
  drop_eq := (Nat.zero_mod _).symm
  popped_le := Nat.le_refl 0
  room := Nat.add_le_add_left (cap_pos p) 0
  snapshot_eq := nofun
  staged_room := fun h => absurd rfl h
  taking_lt := nofun

/-- A push's load latches `POPPED` (I2). -/
theorem pushLoad (c : PushCaller) (f : CanFrame) (h : s.CapacityInv) :
    (pushLoad c f s).CapacityInv :=
  { h with
    snapshot_eq := fun _ hq =>
      ⟨s.popped, (Option.some.inj hq).symm.trans h.pull_eq, Nat.le_refl _, h.room⟩
    staged_room := fun hf => absurd rfl hf }

/-- A producer that holds nothing asks nothing of the counts. -/
theorem idleProducer (h : s.CapacityInv) : { s with producer := .idle }.CapacityInv :=
  { h with snapshot_eq := nofun, staged_room := fun hf => absurd rfl hf }

theorem dropFrame (h : s.CapacityInv) : s.dropFrame.CapacityInv :=
  { h with drop_eq := by simp [h.drop_eq, wrapInc_mod] }

theorem pushWrite {c : PushCaller} {f : CanFrame} {q : Nat} (h : s.CapacityInv)
    (hp : s.producer = .loaded c f q) (hroom : fullAt s.params s.pushPosition q = false) :
    (pushWrite c f q s).CapacityInv :=
  { h with
    snapshot_eq := fun _ hq => h.snapshot_eq _ (hp ▸ hq)
    staged_room := fun _ => h.room_of_write hp hroom }

/-- One more frame stored, where there was room for it (I1). -/
theorem publish (f : CanFrame) (h : s.CapacityInv) (hp : s.producer = .idle)
    (hroom : s.pushed + 2 ≤ s.popped + s.params.cap) : (s.publish f).CapacityInv where
  legal := h.legal
  push_eq := by simp [h.push_eq, wrapInc_mod]
  pull_eq := h.pull_eq
  drop_eq := h.drop_eq
  popped_le := by simpa using h.popped_le.trans (Nat.le_succ _)
  room := by rw [pushed_publish]; exact hroom
  snapshot_eq := by simp [hp]
  staged_room := by simp [hp]
  taking_lt := fun ht => by simpa using (h.taking_lt ht).trans (Nat.le_succ _)

/-- A consumer past its load asks for a frame to take (I4). -/
theorem withConsumer (c : Consumer) (h : s.CapacityInv)
    (htaking : c.taking = true → s.popped + 1 ≤ s.pushed) : { s with consumer := c }.CapacityInv :=
  { h with taking_lt := htaking }

/-- One more frame taken, where one was held (I1). -/
theorem advance (g : CanFrame) (h : s.CapacityInv) (hc : s.consumer = .idle)
    (hheld : s.popped + 1 ≤ s.pushed) : (s.advance g).CapacityInv where
  legal := h.legal
  push_eq := h.push_eq
  pull_eq := by simp [h.pull_eq, wrapInc_mod]
  drop_eq := h.drop_eq
  popped_le := by simpa using hheld
  room := h.room.trans (Nat.add_le_add_right (s.popped_le_advance g) _)
  snapshot_eq := fun q hq => by
    obtain ⟨b, hb, hle, hroom⟩ := h.snapshot_eq q hq
    exact ⟨b, hb, hle.trans (s.popped_le_advance g), hroom⟩
  staged_room := fun hf =>
    (h.staged_room hf).trans (Nat.add_le_add_right (s.popped_le_advance g) _)
  taking_lt := by simp [hc]

end State.CapacityInv

/-- A frame is held where a pop's load finds the positions apart (I4). -/
theorem State.CapacityInv.held_of_ne {s : State} (h : s.CapacityInv)
    (hne : s.pushPosition ≠ s.pullPosition) : s.popped + 1 ≤ s.pushed := by
  have := mt h.empty_iff.2 hne
  have := h.popped_le
  omega

/-- Each micro-step keeps I1 to I4. -/
theorem capacityInv_keptByMicroSteps : KeptByMicroSteps State.CapacityInv where
  congr := fun h e _ => h.congr e
  construct := fun {s p} _ _ hp =>
    (State.CapacityInv.constructed s.sched hp).congr (s.sameQueue_construct p)
  pushLoad := fun c f h _ => h.pushLoad c f
  pushDrop := fun h _ _ => h.dropFrame.idleProducer.congr (State.sameQueue_returnPush _ _ _)
  pushWrite := fun h hp hroom => h.pushWrite hp hroom
  pushPublish := fun {_ _ f _} h hp =>
    (h.idleProducer.publish f rfl (h.staged_room (by simp [hp]))).congr
      (State.sameQueue_returnPush _ _ _)
  popLoaded := fun c h _ hne =>
    (h.congr (State.sameQueue_inUse _)).withConsumer _ fun _ => h.held_of_ne hne
  popRead := fun h hc _ => h.withConsumer _ fun _ => h.taking_lt (by simp [hc])
  popAdvance := fun {s c p g} h hc => by
    have hheld := h.taking_lt (by simp [hc])
    have hadvance := (h.withConsumer .idle nofun).advance g rfl hheld
    cases c with
    | pop => exact hadvance.congr (State.sameQueue_returnFrame _ g)
    | consumeIter => exact hadvance.withConsumer (.reporting g) nofun
  report := fun h _ => { h.withConsumer .idle nofun with }

/-- Settles O41: the capacity invariant is kept by each micro-step, so by every step. -/
theorem stepKeepsTheCapacityInvariant : Obligations.StepKeepsTheCapacityInvariant :=
  fun _ _ => capacityInv_keptByMicroSteps.step

end Sys2Proof.Machine
end

section
/-! PROOFS. Slot safety and FIFO order (R145, R152), micro-step by micro-step. -/

namespace Sys2Proof.Machine

/-- The slot a push writes is no slot of a frame held (R152 (a)). -/
theorem State.CapacityInv.heldSlot_ne_pushSlot {s : State} {n : Nat} (h : s.CapacityInv)
    (hle : s.popped ≤ n) (hlt : n < s.pushed) : n % s.params.cap ≠ s.pushSlot := by
  have hroom := h.room
  rw [h.pushSlot_eq]
  intro e
  have : s.pushed = n := eq_of_mod_eq e.symm hlt.le (by omega)
  omega

namespace State.FifoInv

variable {s : State}

/-- A pop past its load finds `frame(POPPED)` in its slot (R152 (b)). -/
theorem pullSlot_holds (h : s.FifoInv) (hheld : s.popped + 1 ≤ s.pushed) :
    s.slotRead s.pullSlot = s.ghost.stored[s.popped]? := by
  rw [h.pullSlot_eq]
  exact h.held s.popped (Nat.le_refl _) hheld

/-- The frame a pop reads is `frame(POPPED)`, and there is one (R140). -/
theorem exists_frame (h : s.FifoInv) (hheld : s.popped + 1 ≤ s.pushed) :
    ∃ g, s.ghost.stored[s.popped]? = some g ∧ s.slotRead s.pullSlot = some g := by
  rw [h.pullSlot_holds hheld]
  exact ⟨_, List.getElem?_eq_getElem hheld, List.getElem?_eq_getElem hheld⟩

/-- The frames taken, and the next one with them, are an initial part of the frames stored (R145). -/
theorem taken_append_prefix {g : CanFrame} (h : s.FifoInv)
    (hg : s.ghost.stored[s.popped]? = some g) : s.ghost.taken ++ [g] <+: s.ghost.stored := by
  obtain ⟨hlt, rfl⟩ := List.getElem?_eq_some_iff.1 hg
  exact List.concat_get_prefix h.fifo hlt

theorem constructed {p : Params} (sc : Sched) (hp : p.Legal) :
    (State.constructed p sc).FifoInv where
  toCapacityInv := .constructed sc hp
  slots_wf := List.Pairwise.nil
  slots_lt := nofun
  held := nofun
  staged_at := nofun
  latched_eq := nofun
  fifo := List.nil_prefix
  reports := List.nil_sublist _

theorem pushLoad (c : PushCaller) (f : CanFrame) (h : s.FifoInv) : (pushLoad c f s).FifoInv :=
  { h with toCapacityInv := h.toCapacityInv.pushLoad c f, staged_at := nofun }

theorem idleProducer (h : s.FifoInv) : { s with producer := .idle }.FifoInv :=
  { h with toCapacityInv := h.toCapacityInv.idleProducer, staged_at := nofun }

theorem dropFrame (h : s.FifoInv) : s.dropFrame.FifoInv :=
  { h with toCapacityInv := h.toCapacityInv.dropFrame }

/-- A slot is written that holds no frame held, and then holds the frame staged (R135, R152 (a)). -/
theorem pushWrite {c : PushCaller} {f : CanFrame} {q : Nat} (h : s.FifoInv)
    (hp : s.producer = .loaded c f q) (hroom : fullAt s.params s.pushPosition q = false) :
    (pushWrite c f q s).FifoInv :=
  { h with
    toCapacityInv := h.toCapacityInv.pushWrite hp hroom
    slots_wf := Memory.wf_write s.pushSlot f h.slots_wf
    slots_lt := fun d hd => by
      rcases Memory.mem_write hd with rfl | hmem
      · exact slotIndex_lt s.params s.pushPosition
      · exact h.slots_lt d hmem
    held := fun n hle hlt =>
      (Memory.read_write_ne s.slots f (h.heldSlot_ne_pushSlot hle hlt)).trans (h.held n hle hlt)
    staged_at := fun g hg => by
      obtain rfl : f = g := Option.some.inj hg
      show Memory.read (Memory.write s.slots s.pushSlot f) (s.pushed % s.params.cap) = some f
      rw [← h.pushSlot_eq, Memory.read_write_same] }

/-- One more frame is held: the one staged in its slot (R136). -/
theorem publish {f : CanFrame} (h : s.FifoInv) (hp : s.producer = .idle)
    (hroom : s.pushed + 2 ≤ s.popped + s.params.cap)
    (hf : s.slotRead (s.pushed % s.params.cap) = some f) : (s.publish f).FifoInv where
  toCapacityInv := h.toCapacityInv.publish f hp hroom
  slots_wf := h.slots_wf
  slots_lt := h.slots_lt
  held := fun n hle hlt => by
    show s.slotRead (n % s.params.cap) = (s.ghost.stored ++ [f])[n]?
    rw [pushed_publish] at hlt
    rcases Nat.lt_succ_iff_lt_or_eq.1 hlt with hlt | rfl
    · rw [List.getElem?_append_left hlt]
      exact h.held n hle hlt
    · rw [hf, State.pushed, List.getElem?_concat_length]
  staged_at := by simp [hp]
  latched_eq := fun g hg => by
    have hlt := (List.getElem?_eq_some_iff.1 (h.latched_eq g hg)).1
    exact (List.getElem?_append_left hlt).trans (h.latched_eq g hg)
  fifo := h.fifo.trans (List.prefix_append ..)
  reports := h.reports

/-- What a consumer asks of the queue by its phase: a frame to take past its load, `frame(POPPED)` once it
has read, and its reports in order. -/
theorem withConsumer (c : Consumer) (h : s.FifoInv)
    (htaking : c.taking = true → s.popped + 1 ≤ s.pushed)
    (hlatched : ∀ g, c.latched = some g → s.ghost.stored[s.popped]? = some g)
    (hreports : (s.reported ++ c.owed).Sublist (s.ghost.taken.map classify)) :
    { s with consumer := c }.FifoInv :=
  { h with
    toCapacityInv := h.toCapacityInv.withConsumer c htaking
    latched_eq := hlatched
    reports := hreports }

/-- A consumer with no pop in progress asks nothing. -/
theorem idleConsumer (h : s.FifoInv) : { s with consumer := .idle }.FifoInv :=
  h.withConsumer .idle nofun nofun
    (by simpa using (List.sublist_append_left _ _).trans h.reports)

/-- One more frame is taken: `frame(POPPED)` (R141, R145). -/
theorem advance {g : CanFrame} (h : s.FifoInv) (hc : s.consumer = .idle)
    (hg : s.ghost.stored[s.popped]? = some g) : (s.advance g).FifoInv where
  toCapacityInv := h.toCapacityInv.advance g hc (List.getElem?_eq_some_iff.1 hg).1
  slots_wf := h.slots_wf
  slots_lt := h.slots_lt
  held := fun n hle hlt => h.held n (Nat.le_of_succ_le (by simpa using hle)) hlt
  staged_at := h.staged_at
  latched_eq := by simp [hc]
  fifo := h.taken_append_prefix hg
  reports := h.reports.trans (by simp)

end State.FifoInv

/-- Each micro-step keeps the order invariant. -/
theorem fifoInv_keptByMicroSteps : KeptByMicroSteps State.FifoInv where
  congr := fun h e _ => h.congr e
  construct := fun {s p} _ _ hp =>
    (State.FifoInv.constructed s.sched hp).congr (s.sameQueue_construct p)
  pushLoad := fun c f h _ => h.pushLoad c f
  pushDrop := fun h _ _ => h.dropFrame.idleProducer.congr (State.sameQueue_returnPush _ _ _)
  pushWrite := fun h hp hroom => h.pushWrite hp hroom
  pushPublish := fun {_ _ f _} h hp =>
    (h.idleProducer.publish rfl (h.staged_room (by simp [hp])) (h.staged_at f (by simp [hp]))).congr
      (State.sameQueue_returnPush _ _ _)
  popLoaded := fun c h hc hne =>
    (h.congr (State.sameQueue_inUse _)).withConsumer _ (fun _ => h.held_of_ne hne) nofun
      (by simpa [hc] using h.reports)
  popRead := fun {s c p g} h hc hg => by
    have hheld := h.taking_lt (by simp [hc])
    refine h.withConsumer _ (fun _ => hheld) (fun g' hg' => ?_) (by simpa [hc] using h.reports)
    obtain rfl : g = g' := Option.some.inj hg'
    exact (h.pullSlot_holds hheld).symm.trans hg
  popAdvance := fun {s c p g} h hc => by
    have hadvance := h.idleConsumer.advance rfl (h.latched_eq g (by simp [hc]))
    cases c with
    | pop => exact hadvance.congr (State.sameQueue_returnFrame _ g)
    | consumeIter =>
      have hreports := h.reports
      exact hadvance.withConsumer (.reporting g) nofun nofun (by simpa [hc] using hreports)
  report := fun {s g} h hc => by
    have hreports := h.reports
    exact { h.idleConsumer with reports := by simpa [hc, reportStep] using hreports }

/-- Settles O42: the order invariant is kept by each micro-step, so by every step. -/
theorem stepKeepsTheFifoInvariant : Obligations.StepKeepsTheFifoInvariant :=
  fun _ _ => fifoInv_keptByMicroSteps.step

/-- Settles O40: the state of a construction with legal sizes holds nothing, and the sizes of Config are
legal whatever their `K`. -/
theorem resetMeetsTheInvariants : Obligations.ResetMeetsTheInvariants := by
  refine ⟨.constructed _ ⟨Nat.le_of_lt_succ Config.k.isLt, by decide⟩, fun k posw dropw s t ht => ?_⟩
  obtain ⟨-, hposw, hdropw, rfl⟩ := execReset_next ht
  exact (State.FifoInv.constructed s.sched ⟨hposw, hdropw⟩).congr (s.sameQueue_construct _)

end Sys2Proof.Machine
end

section
/-! PROOFS. What the order invariant gives of one operation and of one step: no read of an unwritten slot
(R152), the oldest frame first (R145, R149), and a bound on the micro-steps of an operation (R150). -/

namespace Sys2Proof.Machine

/-! ### The shapes of an operation and of a step -/

/-- The operations by how they run: the construction, the two of the producer, those of the consumer,
`DROPCOUNT`, and the pure ones, which hand back a DecodedFrame (R171). -/
inductive Instr.Kind : Instr → Prop
  | reset (k posw dropw : Nat) : Instr.Kind (.reset k posw dropw)
  | push (c : PushCaller) (f : CanFrame) : Instr.Kind (c.operation f)
  | notifyOther (r : Reason) (f : CanFrame) (h : r ≠ Config.reasonRx) : Instr.Kind (.notify r f)
  | pop (c : PopCaller) : Instr.Kind c.operation
  | dropCount : Instr.Kind .dropCount
  | pure (i : Instr) (d : DecodedFrame)
      (h : ∀ s, exec i s = .next (s.returnClass d) ∧ startOp i s = exec i s) : Instr.Kind i

theorem Instr.kind (i : Instr) : Instr.Kind i := by
  cases i
  case reset k posw dropw => exact .reset k posw dropw
  case push f => exact .push .push f
  case pop => exact .pop .pop
  case dropCount => exact .dropCount
  case notify r f =>
    by_cases hr : r = Config.reasonRx
    · exact hr ▸ .push .notify f
    · exact .notifyOther r f hr
  case consumeIter => exact .pop .consumeIter
  all_goals exact .pure _ _ fun _ => ⟨rfl, rfl⟩

/-- What a step does is chosen by the pending moves alone. -/
theorem step_by_inputs (inputs : List Input) :
    (∀ s : State, s.inputs = inputs → step s = .next s) ∨
    (∃ r, ∀ s : State, s.inputs = inputs → step s = .refused r) ∨
    ∃ rest,
      (∃ i, ∀ s : State, s.inputs = inputs → step s = exec i (s.withInputs rest)) ∨
      (∃ i, ∀ s : State, s.inputs = inputs → step s = startOp i (s.withInputs rest)) ∨
      (∀ s : State, s.inputs = inputs → step s = .next (producerStep (s.withInputs rest))) ∨
      ∀ s : State, s.inputs = inputs → step s = consumerStep (s.withInputs rest) := by
  match inputs with
  | [] => exact .inl fun _ => step_of_inputs_nil
  | .run sp w :: rest =>
    cases hd : decode sp w with
    | error e => exact .inr (.inl ⟨_, fun _ hs => step_undecodable (.inl hs) hd⟩)
    | ok i => exact .inr (.inr ⟨rest, .inl ⟨i, fun _ hs => step_run hs hd⟩⟩)
  | .start sp w :: rest =>
    cases hd : decode sp w with
    | error e => exact .inr (.inl ⟨_, fun _ hs => step_undecodable (.inr hs) hd⟩)
    | ok i => exact .inr (.inr ⟨rest, .inr (.inl ⟨i, fun _ hs => step_start hs hd⟩)⟩)
  | .producer :: rest => exact .inr (.inr ⟨rest, .inr (.inr (.inl fun _ => step_producer))⟩)
  | .consumer :: rest => exact .inr (.inr ⟨rest, .inr (.inr (.inr fun _ => step_consumer))⟩)
  | .construct cap posw dropw :: rest =>
    cases hcap : isPowerOfTwo cap with
    | false =>
      exact .inr (.inl ⟨.notPowerOfTwo cap,
        fun _ hs => (step_construct hs).trans (if_neg (Bool.eq_false_iff.1 hcap))⟩)
    | true =>
      exact .inr (.inr ⟨rest, .inl ⟨.reset cap.log2 posw dropw,
        fun _ hs => (step_construct hs).trans (if_pos hcap)⟩⟩)

/-! ### No step faults -/

theorem execReset_ne_fault (k posw dropw : Nat) (s : State) (e : Fault) :
    exec (.reset k posw dropw) s ≠ .fault e := by
  show execReset k posw dropw s ≠ .fault e
  unfold execReset
  split
  · simp
  · split_ifs <;> simp

namespace State.FifoInv

variable {s : State}

/-- The whole pop of a queue that holds a frame takes `frame(POPPED)` (R145). -/
theorem exec_popOperation (h : s.FifoInv) (c : PopCaller) (hbegin : s.popRefusal = none)
    (hheld : s.popped < s.pushed) :
    ∃ g, s.ghost.stored[s.popped]? = some g ∧
      exec c.operation s = .next (popTake c g s.inUse) := by
  obtain ⟨g, hstored, hslot⟩ := h.exists_frame hheld
  exact ⟨g, hstored, exec_popOperation_of_some c hbegin (mt h.empty_iff.1 hheld.ne') hslot⟩

theorem exec_ne_fault (h : s.FifoInv) (i : Instr) (e : Fault) : exec i s ≠ .fault e := by
  cases Instr.kind i with
  | reset k posw dropw => exact execReset_ne_fault k posw dropw s e
  | push c f =>
    cases hr : s.pushRefusal with
    | some r => simp [(pushOperation_refused c f hr).1]
    | none => simp [exec_pushOperation c f hr]
  | notifyOther r f hne =>
    cases hr : s.pushRefusal with
    | some e => simp [(notify_refused r f hr).1]
    | none => simp [(notify_other f hne hr).1]
  | pop c =>
    cases hr : s.popRefusal with
    | some r => simp [(popOperation_refused c hr).1]
    | none =>
      by_cases he : s.pushPosition = s.pullPosition
      · simp [exec_popOperation_of_empty c hr he]
      · obtain ⟨g, -, hexec⟩ := h.exec_popOperation c hr (h.held_of_ne he)
        simp [hexec]
  | dropCount => cases hb : s.built <;> simp [exec, execDropCount, hb]
  | pure _ d hd => simp [(hd s).1]

theorem startOp_ne_fault (h : s.FifoInv) (i : Instr) (e : Fault) : startOp i s ≠ .fault e := by
  cases Instr.kind i with
  | reset k posw dropw => exact execReset_ne_fault k posw dropw s e
  | push c f =>
    cases hr : s.pushRefusal with
    | some r => simp [(pushOperation_refused c f hr).2]
    | none => simp [startOp_pushOperation c f hr]
  | notifyOther r f hne =>
    cases hr : s.pushRefusal with
    | some e => simp [(notify_refused r f hr).2]
    | none => simp [(notify_other f hne hr).2]
  | pop c =>
    cases hr : s.popRefusal with
    | some r => simp [(popOperation_refused c hr).2]
    | none => simp [startOp_popOperation c hr]
  | dropCount => exact h.exec_ne_fault .dropCount e
  | pure i d hd => exact (hd s).2 ▸ h.exec_ne_fault i e

end State.FifoInv

/-! ### The micro-steps an operation still has -/

/-- The micro-steps the consumer's operation still has (R138, R232). -/
def Consumer.remaining : Consumer → Nat
  | .idle => 0
  | .loaded .pop _ => 2
  | .loaded .consumeIter _ => 3
  | .read .pop _ _ => 1
  | .read .consumeIter _ _ => 2
  | .reporting _ => 1

theorem Consumer.remaining_le (c : Consumer) : c.remaining ≤ 3 := by
  unfold Consumer.remaining
  split <;> omega

theorem Consumer.remaining_eq_zero {c : Consumer} : c.remaining = 0 ↔ c = .idle := by
  unfold Consumer.remaining
  split <;> simp

/-- A micro-step of the consumer leaves the schedule and the producer, so the next one is admitted too. -/
theorem consumerStep_admitted {s t : State} (h : consumerStep s = .next t) :
    t.consumerAdmitted = true := by
  obtain ⟨ha, hcases⟩ := consumerStep_cases h
  have hsched : t.sched = s.sched := by
    obtain ⟨-, rfl⟩ | ⟨c, p, g, -, -, rfl⟩ | ⟨c, p, g, -, rfl⟩ | ⟨g, -, rfl⟩ := hcases
    · rfl
    · rfl
    · cases c <;> rfl
    · rfl
  rw [State.consumerAdmitted_congr hsched (consumerStep_sameProducerPart h).producer, ha]

/-- An admitted micro-step of the consumer goes on, and leaves one less to take. -/
theorem State.FifoInv.consumerStep_next {s : State} (h : s.FifoInv)
    (ha : s.consumerAdmitted = true) :
    ∃ t, consumerStep s = .next t ∧ t.consumer.remaining = s.consumer.remaining - 1 := by
  cases hc : s.consumer with
  | idle => exact ⟨s, consumerStep_of_idle ha hc, by rw [hc]; rfl⟩
  | loaded c p =>
    obtain ⟨g, -, hg⟩ := h.exists_frame (h.taking_lt (by simp [hc]))
    exact ⟨_, (consumerStep_of_loaded ha hc).trans (popRead_of_some c p hg), by cases c <;> rfl⟩
  | read c p g => exact ⟨_, consumerStep_of_read ha hc, by cases c <;> rfl⟩
  | reporting g => exact ⟨_, consumerStep_of_reporting ha hc, rfl⟩

/-- As many micro-steps as the operation still has end it. -/
theorem State.FifoInv.consumerSteps_idle : ∀ {n : Nat} {s : State}, s.FifoInv →
    s.consumerAdmitted = true → s.consumer.remaining ≤ n →
    ∃ t, consumerSteps n s = .next t ∧ t.consumer = .idle
  | 0, s, _, _, hn => ⟨s, rfl, Consumer.remaining_eq_zero.1 (Nat.le_zero.1 hn)⟩
  | n + 1, s, h, ha, hn => by
    obtain ⟨u, hu, hremaining⟩ := h.consumerStep_next ha
    rw [consumerSteps_succ_of_next n hu]
    exact (fifoInv_keptByMicroSteps.consumerStep h hu).consumerSteps_idle (consumerStep_admitted hu)
      (by omega)

/-- After two slots of the producer its push has returned, whatever the state (R150). -/
theorem producerSteps_two_idle (s : State) : (producerSteps 2 s).producer = .idle := by
  show (producerStep (producerStep s)).producer = .idle
  rcases producerStep_cases s with
    ⟨hp, e⟩ | ⟨c, f, q, -, -, e⟩ | ⟨c, f, q, -, -, e⟩ | ⟨c, f, q, -, e⟩ <;> rw [e]
  · rw [e, hp]
  · rw [producerStep_of_idle (pushDrop_producer c s), pushDrop_producer]
  · rw [producerStep_of_written (pushWrite_producer c f q s), pushPublish_producer]
  · rw [producerStep_of_idle (pushPublish_producer c f s), pushPublish_producer]

/-! ### The obligations -/

/-- Settles O39: two slots end any push, and the slots an operation of the consumer still has end it. -/
theorem operationsAreWaitFree : Obligations.OperationsAreWaitFree := by
  refine ⟨producerSteps_two_idle,
    fun s h ha => h.consumerSteps_idle ha s.consumer.remaining_le, fun s p h ha hl => ?_⟩
  obtain ⟨g, -, hg⟩ := h.exists_frame (h.taking_lt (by simp [hl]))
  exact ⟨_, g, consumerSteps_read_advance 0 ha hl hg, rfl, rfl⟩

theorem State.FifoInv.step_ne_fault {s : State} (h : s.FifoInv) (e : Fault) : step s ≠ .fault e := by
  have hin : ∀ rest, (s.withInputs rest).FifoInv := fun rest =>
    fifoInv_keptByMicroSteps.withInputs rest h
  obtain hs | ⟨r, hs⟩ | ⟨rest, ⟨i, hs⟩ | ⟨i, hs⟩ | hs | hs⟩ := step_by_inputs s.inputs <;>
    rw [hs s rfl]
  · nofun
  · nofun
  · exact (hin rest).exec_ne_fault i e
  · exact (hin rest).startOp_ne_fault i e
  · nofun
  · cases ha : (s.withInputs rest).consumerAdmitted with
    | false => simp [consumerStep_of_not_admitted ha]
    | true =>
      obtain ⟨t, ht, -⟩ := (hin rest).consumerStep_next ha
      simp [ht]

/-- Settles O44: the slot of a write holds no frame held, that of a read holds `frame(POPPED)`, and the
two positions select one slot only when no frame is held. -/
theorem slotSafety : Obligations.SlotSafety := by
  intro s h
  have hheld : ∀ {c p}, s.consumer = .loaded c p → s.popped < s.pushed := fun hc =>
    h.taking_lt (by simp [hc])
  exact ⟨fun _ _ _ _ _ n hle hlt => (h.heldSlot_ne_pushSlot hle hlt).symm,
    fun _ _ hc => ⟨hheld hc, h.exists_frame (hheld hc)⟩,
    fun _ _ _ _ _ _ _ hc => mt h.pushSlot_eq_pullSlot_iff.1 (hheld hc).ne',
    h.step_ne_fault⟩

/-- Settles O45: a pop that may begin takes `frame(POPPED)`, or finds the positions equal. -/
theorem popReturnsTheOldestFrame : Obligations.PopReturnsTheOldestFrame := by
  intro s h hb hc ha
  have hbegin := State.popRefusal_eq_none.2 ⟨hb, hc, ha⟩
  refine ⟨fun hheld => ?_, fun he => ?_⟩
  · obtain ⟨g, hg, hexec⟩ := h.exec_popOperation .pop hbegin hheld
    exact ⟨g, _, hg, hexec, rfl, State.popped_advance s.inUse g⟩
  · exact ⟨_, exec_popOperation_of_empty .pop hbegin (h.empty_iff.2 he.symm), rfl, rfl, rfl, rfl, rfl⟩

end Sys2Proof.Machine
end

section
/-! PROOFS. Bursts of whole operations: a queue of one slot (R147), and the overflow of a fresh queue
(R148). -/

namespace Sys2Proof.Machine

/-- Settles O49: with one slot no frame is ever held, so the queue is full and empty at once. -/
theorem oneSlotHoldsNoFrame : Obligations.OneSlotHoldsNoFrame := by
  intro f s h hk hb
  have hcap : s.params.cap = 1 := by rw [Params.cap, hk, Nat.pow_zero]
  have heq : s.pushed = s.popped := by
    have hroom := h.room
    have hle := h.popped_le
    omega
  refine ⟨fun hp => ?_, fun hc ha => ?_⟩
  · have hfull : s.full = true := h.full_iff.2 (by rw [hcap, heq])
    have hpush := exec_pushOperation .push f (State.pushRefusal_eq_none.2 ⟨hb, hp⟩)
    rw [pushWhole_of_full .push f hfull] at hpush
    exact ⟨_, hpush, rfl, rfl, rfl, rfl⟩
  · have hbegin := State.popRefusal_eq_none.2 ⟨hb, hc, ha⟩
    exact ⟨_, exec_popOperation_of_empty .pop hbegin (h.empty_iff.2 heq), rfl⟩

/-! ### A queue between whole operations -/

/-- A queue that meets the order invariant, in use, with no operation in progress. -/
structure State.AtRest (s : State) : Prop extends s.FifoInv where
  running : s.lifecycle = .running
  producer_idle : s.producer = .idle
  consumer_idle : s.consumer = .idle

namespace State.AtRest

variable {s : State}

theorem built (h : s.AtRest) : s.built = true := by simp [State.built, h.running]

theorem consumerAdmitted (h : s.AtRest) : s.consumerAdmitted = true :=
  State.consumerAdmitted_of_producer_idle h.producer_idle

theorem pushRefusal (h : s.AtRest) : s.pushRefusal = none :=
  State.pushRefusal_eq_none.2 ⟨h.built, h.producer_idle⟩

theorem popRefusal (h : s.AtRest) : s.popRefusal = none :=
  State.popRefusal_eq_none.2 ⟨h.built, h.consumer_idle, h.consumerAdmitted⟩

theorem construct (s : State) {p : Params} (hp : p.Legal) : (s.construct p).AtRest where
  toFifoInv := (State.FifoInv.constructed s.sched hp).congr (s.sameQueue_construct p)
  running := rfl
  producer_idle := rfl
  consumer_idle := rfl

theorem pushWhole (h : s.AtRest) (c : PushCaller) (f : CanFrame) : (pushWhole c f s).AtRest where
  toFifoInv := fifoInv_keptByMicroSteps.pushWhole c f h.toFifoInv h.producer_idle
  running := by rcases pushWhole_cases c f s with e | e <;> simp [e]
  producer_idle := by rcases pushWhole_cases c f s with e | e <;> simp [e, h.producer_idle]
  consumer_idle := (pushWhole_sameConsumerPart c f s).consumer.trans h.consumer_idle

end State.AtRest

theorem pushWhole_params (c : PushCaller) (f : CanFrame) (s : State) :
    (pushWhole c f s).params = s.params := by
  rcases pushWhole_cases c f s with e | e <;> simp [e]

theorem execAll_cons_of_next {i : Instr} {is : List Instr} {s t : State} (h : exec i s = .next t) :
    execAll (i :: is) s = execAll is t := by
  simp [execAll, h]

/-! ### The burst -/

/-- What pushing `fs` into a fresh queue leaves: the first `CAP - 1` frames stored, the others counted,
none taken (R148). -/
structure AfterBurst (p : Params) (fs : List CanFrame) (s : State) : Prop extends s.AtRest where
  params : s.params = p
  taken : s.ghost.taken = []
  stored : s.ghost.stored = fs.take (p.cap - 1)
  drops : s.ghost.drops = fs.length - (p.cap - 1)

namespace AfterBurst

variable {p : Params} {fs : List CanFrame} {s : State}

theorem popped (h : AfterBurst p fs s) : s.popped = 0 := by simp [State.popped, h.taken]

theorem pushed (h : AfterBurst p fs s) : s.pushed = min (p.cap - 1) fs.length := by
  rw [State.pushed, h.stored, List.length_take]

/-- The queue is full once `CAP - 1` frames were pushed (R30). -/
theorem full_iff (h : AfterBurst p fs s) : s.full = true ↔ p.cap - 1 ≤ fs.length := by
  have hcap := cap_pos p
  rw [h.toCapacityInv.full_iff, h.pushed, h.popped, h.params]
  omega

/-- One frame more is stored while there is room, and counted from then on. -/
theorem pushWhole (h : AfterBurst p fs s) (f : CanFrame) :
    AfterBurst p (fs ++ [f]) (pushWhole .push f s) := by
  have hlength : (fs ++ [f]).length = fs.length + 1 := List.length_append
  cases hfull : s.full with
  | true =>
    have hlen := h.full_iff.1 hfull
    have e := pushWhole_of_full .push f hfull
    exact { h.toAtRest.pushWhole .push f with
      params := (pushWhole_params .push f s).trans h.params
      taken := by simp [e, h.taken]
      stored := by simp [e, h.stored, List.take_append_of_le_length hlen]
      drops := by
        simp only [e, State.returnPush_ghost, State.dropFrame_ghost, State.inUse_ghost, h.drops, hlength]
        omega }
  | false =>
    have hlen : fs.length < p.cap - 1 := Nat.lt_of_not_le (mt h.full_iff.2 (by simp [hfull]))
    have hlen' : (fs ++ [f]).length ≤ p.cap - 1 := hlength ▸ hlen
    have e := pushWhole_of_room .push f hfull
    exact { h.toAtRest.pushWhole .push f with
      params := (pushWhole_params .push f s).trans h.params
      taken := by simp [e, h.taken]
      stored := by
        simp [e, h.stored, List.take_of_length_le hlen.le, List.take_of_length_le hlen']
      drops := by
        simp only [e, State.returnPush_ghost, State.publish_ghost, State.slotWrite_ghost,
          State.inUse_ghost, h.drops, hlength]
        omega }

/-- The burst goes on, frame by frame. -/
theorem execAll_push : ∀ (gs : List CanFrame) {fs : List CanFrame} {s : State}, AfterBurst p fs s →
    ∃ t, execAll (gs.map .push) s = .next t ∧ AfterBurst p (fs ++ gs) t
  | [], fs, s, h => ⟨s, rfl, fs.append_nil.symm ▸ h⟩
  | g :: gs, fs, s, h => by
    obtain ⟨t, hexec, ht⟩ := execAll_push gs (h.pushWhole g)
    rw [List.append_cons]
    exact ⟨t, (execAll_cons_of_next (exec_pushOperation .push g h.pushRefusal)).trans hexec, ht⟩

end AfterBurst

/-- Pops of a queue at rest, as many as it holds frames for, take them. -/
theorem execAll_pop : ∀ (n : Nat) {s : State}, s.AtRest → s.popped + n ≤ s.pushed →
    ∃ t, execAll (List.replicate n .pop) s = .next t ∧ t.AtRest ∧
      t.ghost.stored = s.ghost.stored ∧ t.popped = s.popped + n
  | 0, s, h, _ => ⟨s, rfl, h, rfl, rfl⟩
  | n + 1, s, h, hn => by
    obtain ⟨g, -, hpop⟩ := h.exec_popOperation .pop h.popRefusal (by omega)
    have hrest : (popTake .pop g s.inUse).AtRest :=
      { fifoInv_keptByMicroSteps.exec h.toFifoInv hpop with
        running := rfl
        producer_idle := h.producer_idle
        consumer_idle := h.consumer_idle }
    have hpopped : (popTake .pop g s.inUse).popped = s.popped + 1 := State.popped_advance s.inUse g
    obtain ⟨t, hexec, ht, hstored, htpopped⟩ := execAll_pop n hrest (by
      show _ ≤ s.pushed
      omega)
    refine ⟨t, (execAll_cons_of_next hpop).trans hexec, ht, hstored, ?_⟩
    omega

/-- Settles O50: the burst leaves `AfterBurst`, and as many pops as it holds frames take them all. -/
theorem burstKeepsTheFirstFrames : Obligations.BurstKeepsTheFirstFrames := by
  intro k posw dropw s₀ s fs hreset hlong
  obtain ⟨-, hposw, hdropw, rfl⟩ := execReset_next hreset
  have hfresh : AfterBurst ⟨k, posw, dropw⟩ [] (s₀.construct ⟨k, posw, dropw⟩) :=
    { State.AtRest.construct s₀ ⟨hposw, hdropw⟩ with
      params := rfl, taken := rfl, stored := List.take_nil.symm, drops := (Nat.zero_sub _).symm }
  obtain ⟨t, hpushes, ht⟩ := hfresh.execAll_push fs
  have hpopped := ht.popped
  have hpushed : t.pushed = 2 ^ k - 1 := by
    rw [ht.pushed]
    exact min_eq_left (Nat.sub_le_iff_le_add.2 hlong)
  obtain ⟨u, hpops, hu, hstored, hupopped⟩ :=
    execAll_pop (2 ^ k - 1) ht.toAtRest (by rw [hpopped, hpushed, Nat.zero_add])
  have htaken : u.ghost.taken = u.ghost.stored := hu.fifo.eq_of_length (by
    show u.popped = u.ghost.stored.length
    rw [hupopped, hpopped, hstored, Nat.zero_add]
    exact hpushed.symm)
  obtain ⟨v, hv, hnone, -⟩ := (popReturnsTheOldestFrame u hu.toFifoInv hu.built hu.consumer_idle
    hu.consumerAdmitted).2 (congrArg List.length htaken)
  refine ⟨t, u, hpushes, ht.stored, ?_, ?_, hpops, (htaken.trans hstored).trans ht.stored, v, hv,
    hnone⟩
  · rw [ht.occ_eq, hpopped, hpushed, Nat.sub_zero]
  · rw [ht.drop_eq, ht.drops, ht.params]
    rfl

end Sys2Proof.Machine
end

section
/-! PROOFS. Independence from `POSW` (R146): two machines that differ in the width of their position
counters test, read, write and return alike, micro-step by micro-step. -/

namespace Sys2Proof.Machine

theorem State.sameQueue_returnDropCount (s : State) : s.SameQueue s.returnDropCount := by
  constructor <;> rfl

/-- A snapshot stays an earlier `POPPED` as frames are taken (I2). -/
theorem Producer.Alike.mono {w₁ w₂ popped popped' pushed cap : Nat} {p p' : Producer}
    (h : Producer.Alike w₁ w₂ popped pushed cap p p') (hle : popped ≤ popped') :
    Producer.Alike w₁ w₂ popped' pushed cap p p' := by
  unfold Producer.Alike at h
  split at h
  · trivial
  · obtain ⟨hc, hf, b, hq, hq', hb, hroom⟩ := h
    exact ⟨hc, hf, b, hq, hq', hb.trans hle, hroom⟩
  · obtain ⟨hc, hf, b, hq, hq', hb, hroom⟩ := h
    exact ⟨hc, hf, b, hq, hq', hb.trans hle, hroom⟩
  · exact h.elim

/-- Two outcomes that are alike are of one shape. -/
theorem SameOutcome.cases {o o' : Host.Outcome State Fault Refusal} (h : SameOutcome o o') :
    (∃ s t, o = .next s ∧ o' = .next t ∧ WidthAlike s t) ∨
      (∃ e, o = .fault e ∧ o' = .fault e) ∨ ∃ r, o = .refused r ∧ o' = .refused r := by
  unfold SameOutcome at h
  split at h
  · exact .inl ⟨_, _, rfl, rfl, h⟩
  · exact .inr (.inl ⟨_, rfl, h ▸ rfl⟩)
  · exact .inr (.inr ⟨_, rfl, h ▸ rfl⟩)
  · exact h.elim

namespace WidthAlike

variable {s t : State}

/-! ### What two such machines agree on -/

theorem pushed_eq (h : WidthAlike s t) : s.pushed = t.pushed := by
  simp [State.pushed, h.ghost_eq]

theorem popped_eq (h : WidthAlike s t) : s.popped = t.popped := by
  simp [State.popped, h.ghost_eq]

theorem cap_eq (h : WidthAlike s t) : s.params.cap = t.params.cap := by
  simp [Params.cap, h.k_eq]

theorem pushSlot_eq (h : WidthAlike s t) : s.pushSlot = t.pushSlot := by
  rw [h.left.pushSlot_eq, h.right.pushSlot_eq, h.pushed_eq, h.cap_eq]

theorem pullSlot_eq (h : WidthAlike s t) : s.pullSlot = t.pullSlot := by
  rw [h.left.pullSlot_eq, h.right.pullSlot_eq, h.popped_eq, h.cap_eq]

theorem slotRead_eq (h : WidthAlike s t) : s.slotRead s.pullSlot = t.slotRead t.pullSlot := by
  rw [h.pullSlot_eq, State.slotRead_congr h.slots_eq]

/-- The empty test is the comparison of `PUSHED` and `POPPED` at either width (R143 (d)). -/
theorem empty_iff (h : WidthAlike s t) :
    s.pushPosition = s.pullPosition ↔ t.pushPosition = t.pullPosition := by
  rw [h.left.empty_iff, h.right.empty_iff, h.pushed_eq, h.popped_eq]

/-- The full test compares `K` bits, which either width keeps (R143 (c)). -/
theorem fullAt_eq (h : WidthAlike s t) (b : Nat) :
    fullAt s.params s.pushPosition (b % 2 ^ s.params.posw) =
      fullAt t.params t.pushPosition (b % 2 ^ t.params.posw) := by
  rw [Bool.eq_iff_iff, h.left.fullAt_iff_counts, h.right.fullAt_iff_counts, h.pushed_eq, h.cap_eq]

/-- The producers are in one phase, with one caller and frame, and snapshots of one count. -/
theorem producer_cases (h : WidthAlike s t) :
    (s.producer = .idle ∧ t.producer = .idle) ∨
    (∃ c f b, s.producer = .loaded c f (b % 2 ^ s.params.posw) ∧
      t.producer = .loaded c f (b % 2 ^ t.params.posw)) ∨
    ∃ c f b, s.producer = .written c f (b % 2 ^ s.params.posw) ∧
      t.producer = .written c f (b % 2 ^ t.params.posw) := by
  have hp := h.producer_alike
  unfold Producer.Alike at hp
  split at hp
  · next hs ht => exact .inl ⟨hs, ht⟩
  · next hs ht =>
    obtain ⟨rfl, rfl, b, rfl, rfl, -, -⟩ := hp
    exact .inr (.inl ⟨_, _, b, hs, ht⟩)
  · next hs ht =>
    obtain ⟨rfl, rfl, b, rfl, rfl, -, -⟩ := hp
    exact .inr (.inr ⟨_, _, b, hs, ht⟩)
  · exact hp.elim

/-- The consumers are in one phase, with one caller and frame. -/
theorem consumer_cases (h : WidthAlike s t) :
    (s.consumer = .idle ∧ t.consumer = .idle) ∨
    (∃ c p p', s.consumer = .loaded c p ∧ t.consumer = .loaded c p') ∨
    (∃ c p p' g, s.consumer = .read c p g ∧ t.consumer = .read c p' g) ∨
    ∃ g, s.consumer = .reporting g ∧ t.consumer = .reporting g := by
  have hc := h.consumer_alike
  unfold Consumer.Alike at hc
  split at hc
  · next hs ht => exact .inl ⟨hs, ht⟩
  · next hs ht =>
    obtain rfl := hc
    exact .inr (.inl ⟨_, _, _, hs, ht⟩)
  · next hs ht =>
    obtain ⟨rfl, rfl⟩ := hc
    exact .inr (.inr (.inl ⟨_, _, _, _, hs, ht⟩))
  · next hs ht =>
    obtain rfl := hc
    exact .inr (.inr (.inr ⟨_, hs, ht⟩))
  · exact hc.elim

theorem producer_isIdle_eq (h : WidthAlike s t) : s.producer.isIdle = t.producer.isIdle := by
  obtain ⟨hs, ht⟩ | ⟨c, f, b, hs, ht⟩ | ⟨c, f, b, hs, ht⟩ := h.producer_cases <;> rw [hs, ht] <;> rfl

theorem consumer_isIdle_eq (h : WidthAlike s t) : s.consumer.isIdle = t.consumer.isIdle := by
  obtain ⟨hs, ht⟩ | ⟨c, p, p', hs, ht⟩ | ⟨c, p, p', g, hs, ht⟩ | ⟨g, hs, ht⟩ := h.consumer_cases <;>
    rw [hs, ht] <;> rfl

theorem consumerAdmitted_eq (h : WidthAlike s t) : s.consumerAdmitted = t.consumerAdmitted := by
  simp [State.consumerAdmitted, h.sched_eq, h.producer_isIdle_eq]

theorem built_eq (h : WidthAlike s t) : s.built = t.built := by
  simp [State.built, h.lifecycle_eq]

theorem pushRefusal_eq (h : WidthAlike s t) : s.pushRefusal = t.pushRefusal := by
  simp [State.pushRefusal, h.built_eq, h.producer_isIdle_eq]

theorem popRefusal_eq (h : WidthAlike s t) : s.popRefusal = t.popRefusal := by
  simp [State.popRefusal, h.built_eq, h.consumer_isIdle_eq, h.consumerAdmitted_eq]

/-! ### What keeps two such machines alike -/

/-- What touches the lifecycle, the pending moves and the returned values only, and those alike. -/
theorem congr {s' t' : State} (h : WidthAlike s t) (es : s.SameQueue s') (et : t.SameQueue t')
    (hl : s'.lifecycle = t'.lifecycle) (hi : s'.inputs = t'.inputs) (hr : s'.returns = t'.returns) :
    WidthAlike s' t' where
  left := h.left.congr es
  right := h.right.congr et
  k_eq := by rw [es.params, et.params, h.k_eq]
  dropw_eq := by rw [es.params, et.params, h.dropw_eq]
  sched_eq := by rw [es.sched, et.sched, h.sched_eq]
  lifecycle_eq := hl
  drop_eq := by rw [es.dropCount, et.dropCount, h.drop_eq]
  slots_eq := by rw [es.slots, et.slots, h.slots_eq]
  producer_alike := by
    rw [State.popped, State.pushed, es.params, et.params, es.ghost, es.producer, et.producer]
    exact h.producer_alike
  consumer_alike := by rw [es.consumer, et.consumer]; exact h.consumer_alike
  inputs_eq := hi
  reported_eq := by rw [es.reported, et.reported, h.reported_eq]
  returns_eq := hr
  ghost_eq := by rw [es.ghost, et.ghost, h.ghost_eq]

theorem withInputs (h : WidthAlike s t) (rest : List Input) :
    WidthAlike (s.withInputs rest) (t.withInputs rest) :=
  h.congr (s.sameQueue_withInputs rest) (t.sameQueue_withInputs rest) h.lifecycle_eq rfl h.returns_eq

theorem inUse (h : WidthAlike s t) : WidthAlike s.inUse t.inUse :=
  h.congr s.sameQueue_inUse t.sameQueue_inUse rfl h.inputs_eq h.returns_eq

theorem returnPush (h : WidthAlike s t) (c : PushCaller) (ok : Bool) :
    WidthAlike (s.returnPush c ok) (t.returnPush c ok) :=
  h.congr (s.sameQueue_returnPush c ok) (t.sameQueue_returnPush c ok) (by simp [h.lifecycle_eq])
    (by simp [h.inputs_eq]) (by cases c <;> simp [h.returns_eq])

theorem returnEmpty (h : WidthAlike s t) (c : PopCaller) :
    WidthAlike (s.returnEmpty c) (t.returnEmpty c) :=
  h.congr (s.sameQueue_returnEmpty c) (t.sameQueue_returnEmpty c) (by simp [h.lifecycle_eq])
    (by simp [h.inputs_eq]) (by cases c <;> simp [h.returns_eq])

theorem returnClass (h : WidthAlike s t) (d : DecodedFrame) :
    WidthAlike (s.returnClass d) (t.returnClass d) :=
  h.congr (s.sameQueue_returnClass d) (t.sameQueue_returnClass d) h.lifecycle_eq h.inputs_eq
    (by simp [h.returns_eq])

theorem returnDropCount (h : WidthAlike s t) :
    WidthAlike s.returnDropCount t.returnDropCount :=
  h.congr s.sameQueue_returnDropCount t.sameQueue_returnDropCount h.lifecycle_eq h.inputs_eq
    (by simp [h.returns_eq, h.drop_eq])

/-- Two constructions with the same sizes differ in nothing the relation asks for. -/
theorem construct (h : WidthAlike s t) {p : Params} (hp : p.Legal) :
    WidthAlike (s.construct p) (t.construct p) where
  left := (State.CapacityInv.constructed s.sched hp).congr (s.sameQueue_construct p)
  right := (State.CapacityInv.constructed t.sched hp).congr (t.sameQueue_construct p)
  k_eq := rfl
  dropw_eq := rfl
  sched_eq := h.sched_eq
  lifecycle_eq := rfl
  drop_eq := rfl
  slots_eq := rfl
  producer_alike := trivial
  consumer_alike := trivial
  inputs_eq := h.inputs_eq
  reported_eq := rfl
  returns_eq := rfl
  ghost_eq := rfl

/-! ### The producer's micro-steps -/

theorem pushLoad (h : WidthAlike s t) (c : PushCaller) (f : CanFrame) :
    WidthAlike (pushLoad c f s) (pushLoad c f t) :=
  { h.inUse with
    left := h.left.pushLoad c f
    right := h.right.pushLoad c f
    producer_alike := ⟨rfl, rfl, s.popped, h.left.pull_eq, h.popped_eq ▸ h.right.pull_eq,
      Nat.le_refl _, h.left.room⟩ }

theorem idleProducer (h : WidthAlike s t) :
    WidthAlike { s with producer := .idle } { t with producer := .idle } :=
  { h with left := h.left.idleProducer, right := h.right.idleProducer, producer_alike := trivial }

theorem dropFrame (h : WidthAlike s t) : WidthAlike s.dropFrame t.dropFrame :=
  { h with
    left := h.left.dropFrame
    right := h.right.dropFrame
    drop_eq := by simp [h.drop_eq, h.dropw_eq]
    ghost_eq := by simp [h.ghost_eq] }

theorem pushWrite {c : PushCaller} {f : CanFrame} {q q' : Nat} (h : WidthAlike s t)
    (hs : s.producer = .loaded c f q) (ht : t.producer = .loaded c f q')
    (hroom : fullAt s.params s.pushPosition q = false)
    (hroom' : fullAt t.params t.pushPosition q' = false) :
    WidthAlike (pushWrite c f q s) (pushWrite c f q' t) :=
  { h with
    left := h.left.pushWrite hs hroom
    right := h.right.pushWrite ht hroom'
    slots_eq := by
      show Memory.write s.slots s.pushSlot f = Memory.write t.slots t.pushSlot f
      rw [h.slots_eq, h.pushSlot_eq]
    producer_alike := by
      have hp := h.producer_alike
      rw [hs, ht] at hp
      exact hp }

theorem pushPublish {c : PushCaller} {f : CanFrame} {q q' : Nat} (h : WidthAlike s t)
    (hs : s.producer = .written c f q) (ht : t.producer = .written c f q') :
    WidthAlike (pushPublish c f s) (pushPublish c f t) := by
  have hidle := h.idleProducer
  have hpublish : WidthAlike (State.publish { s with producer := .idle } f)
      (State.publish { t with producer := .idle } f) :=
    { hidle with
      left := hidle.left.publish f rfl (h.left.staged_room (by simp [hs]))
      right := hidle.right.publish f rfl (h.right.staged_room (by simp [ht]))
      ghost_eq := by simp [h.ghost_eq] }
  exact hpublish.returnPush c true

theorem producerStep (h : WidthAlike s t) : WidthAlike (producerStep s) (producerStep t) := by
  obtain ⟨hs, ht⟩ | ⟨c, f, b, hs, ht⟩ | ⟨c, f, b, hs, ht⟩ := h.producer_cases
  · rw [producerStep_of_idle hs, producerStep_of_idle ht]
    exact h
  · cases hfull : fullAt s.params s.pushPosition (b % 2 ^ s.params.posw) with
    | true =>
      rw [producerStep_of_full hs hfull, producerStep_of_full ht (h.fullAt_eq b ▸ hfull)]
      exact h.dropFrame.idleProducer.returnPush c false
    | false =>
      have hfull' := h.fullAt_eq b ▸ hfull
      rw [producerStep_of_room hs hfull, producerStep_of_room ht hfull']
      exact h.pushWrite hs ht hfull hfull'
  · rw [producerStep_of_written hs, producerStep_of_written ht]
    exact h.pushPublish hs ht

theorem pushWhole (h : WidthAlike s t) (c : PushCaller) (f : CanFrame)
    (hs : s.producer = .idle) (ht : t.producer = .idle) :
    WidthAlike (pushWhole c f s) (pushWhole c f t) := by
  rw [← producerSteps_pushLoad c f hs, ← producerSteps_pushLoad c f ht]
  exact (h.pushLoad c f).producerStep.producerStep

/-! ### The consumer's micro-steps -/

theorem withConsumer {c c' : Consumer} (h : WidthAlike s t) (halike : Consumer.Alike c c')
    (hs : c.taking = true → s.popped + 1 ≤ s.pushed)
    (ht : c'.taking = true → t.popped + 1 ≤ t.pushed) :
    WidthAlike { s with consumer := c } { t with consumer := c' } :=
  { h with
    left := h.left.withConsumer c hs
    right := h.right.withConsumer c' ht
    consumer_alike := halike }

/-- An idle consumer's frame taken: the same frame, as `POPPED` is one count. -/
theorem advance (h : WidthAlike s t) (g : CanFrame) (hs : s.consumer = .idle)
    (ht : t.consumer = .idle) (hheld : s.popped + 1 ≤ s.pushed) :
    WidthAlike (s.advance g) (t.advance g) :=
  { h with
    left := h.left.advance g hs hheld
    right := h.right.advance g ht (by rw [← h.popped_eq, ← h.pushed_eq]; exact hheld)
    producer_alike := h.producer_alike.mono (by simp)
    ghost_eq := by simp [h.ghost_eq] }

theorem returnFrame (h : WidthAlike s t) (g : CanFrame) :
    WidthAlike (s.returnFrame g) (t.returnFrame g) :=
  h.congr (s.sameQueue_returnFrame g) (t.sameQueue_returnFrame g) h.lifecycle_eq h.inputs_eq
    (by simp [h.returns_eq])

theorem reportStep (h : WidthAlike s t) (g : CanFrame) :
    WidthAlike (reportStep g s) (reportStep g t) :=
  { h.withConsumer (c := .idle) (c' := .idle) trivial nofun nofun with
    left := { h.left.withConsumer .idle nofun with }
    right := { h.right.withConsumer .idle nofun with }
    reported_eq := by simp [Machine.reportStep, h.reported_eq]
    returns_eq := by simp [Machine.reportStep, h.returns_eq] }

theorem popLoad (h : WidthAlike s t) (c : PopCaller) : WidthAlike (popLoad c s) (popLoad c t) := by
  by_cases he : s.pushPosition = s.pullPosition
  · rw [popLoad_of_empty c he, popLoad_of_empty c (h.empty_iff.1 he)]
    exact h.inUse.returnEmpty c
  · have he' := mt h.empty_iff.2 he
    rw [popLoad_of_nonempty c he, popLoad_of_nonempty c he']
    exact h.inUse.withConsumer rfl (fun _ => h.left.held_of_ne he) fun _ => h.right.held_of_ne he'

theorem popAdvance {c : PopCaller} {p : Nat} {g : CanFrame} (h : WidthAlike s t)
    (hs : s.consumer = .read c p g) : WidthAlike (popAdvance c g s) (popAdvance c g t) := by
  have hidle := h.withConsumer (c := .idle) (c' := .idle) trivial nofun nofun
  have hadvance := hidle.advance g rfl rfl (h.left.taking_lt (by simp [hs]))
  cases c with
  | pop => exact hadvance.returnFrame g
  | consumeIter =>
    exact hadvance.withConsumer (c := .reporting g) (c' := .reporting g) rfl nofun nofun

theorem popRead {c : PopCaller} {p p' : Nat} (h : WidthAlike s t) (hs : s.consumer = .loaded c p)
    (ht : t.consumer = .loaded c p') : SameOutcome (popRead c p s) (popRead c p' t) := by
  cases hg : s.slotRead s.pullSlot with
  | none =>
    rw [popRead_of_none c p hg, popRead_of_none c p' (h.slotRead_eq ▸ hg)]
    exact congrArg _ h.pullSlot_eq
  | some g =>
    rw [popRead_of_some c p hg, popRead_of_some c p' (h.slotRead_eq ▸ hg)]
    exact h.withConsumer ⟨rfl, rfl⟩ (fun _ => h.left.taking_lt (by simp [hs]))
      fun _ => h.right.taking_lt (by simp [ht])

theorem consumerStep (h : WidthAlike s t) : SameOutcome (consumerStep s) (consumerStep t) := by
  cases ha : s.consumerAdmitted with
  | false =>
    rw [consumerStep_of_not_admitted ha, consumerStep_of_not_admitted (h.consumerAdmitted_eq ▸ ha)]
    exact rfl
  | true =>
    have ha' := h.consumerAdmitted_eq ▸ ha
    obtain ⟨hs, ht⟩ | ⟨c, p, p', hs, ht⟩ | ⟨c, p, p', g, hs, ht⟩ | ⟨g, hs, ht⟩ := h.consumer_cases
    · rw [consumerStep_of_idle ha hs, consumerStep_of_idle ha' ht]
      exact h
    · rw [consumerStep_of_loaded ha hs, consumerStep_of_loaded ha' ht]
      exact h.popRead hs ht
    · rw [consumerStep_of_read ha hs, consumerStep_of_read ha' ht]
      exact h.popAdvance hs
    · rw [consumerStep_of_reporting ha hs, consumerStep_of_reporting ha' ht]
      exact h.reportStep g

theorem consumerSteps : ∀ (n : Nat) {s t : State}, WidthAlike s t →
    SameOutcome (consumerSteps n s) (consumerSteps n t)
  | 0, _, _, h => h
  | n + 1, s, t, h => by
    unfold Machine.consumerSteps
    obtain ⟨u, v, hs, ht, hnext⟩ | ⟨e, hs, ht⟩ | ⟨r, hs, ht⟩ := h.consumerStep.cases <;> rw [hs, ht]
    · exact consumerSteps n hnext
    · exact rfl
    · exact rfl

/-! ### Operations and steps -/

theorem exec (h : WidthAlike s t) (i : Instr) : SameOutcome (exec i s) (exec i t) := by
  cases Instr.kind i with
  | reset k posw dropw =>
    show SameOutcome (execReset k posw dropw s) (execReset k posw dropw t)
    unfold execReset
    rw [h.lifecycle_eq]
    split
    · exact rfl
    · split_ifs with hposw hdropw
      · exact rfl
      · exact rfl
      · exact h.construct ⟨Nat.le_of_not_lt hposw, Nat.pos_of_ne_zero hdropw⟩
  | push c f =>
    cases hr : s.pushRefusal with
    | some e =>
      rw [(pushOperation_refused c f hr).1, (pushOperation_refused c f (h.pushRefusal_eq ▸ hr)).1]
      exact rfl
    | none =>
      have hr' := h.pushRefusal_eq ▸ hr
      rw [exec_pushOperation c f hr, exec_pushOperation c f hr']
      exact h.pushWhole c f (pushRefusal_none hr).2 (pushRefusal_none hr').2
  | notifyOther r f hne =>
    cases hr : s.pushRefusal with
    | some e =>
      rw [(notify_refused r f hr).1,
        (notify_refused r f (h.pushRefusal_eq ▸ hr)).1]
      exact rfl
    | none =>
      rw [(notify_other f hne hr).1, (notify_other f hne (h.pushRefusal_eq ▸ hr)).1]
      exact h
  | pop c =>
    cases hr : s.popRefusal with
    | some e =>
      rw [(popOperation_refused c hr).1, (popOperation_refused c (h.popRefusal_eq ▸ hr)).1]
      exact rfl
    | none =>
      rw [← consumerSteps_popLoad c hr, ← consumerSteps_popLoad c (h.popRefusal_eq ▸ hr)]
      exact (h.popLoad c).consumerSteps 3
  | dropCount =>
    show SameOutcome (execDropCount s) (execDropCount t)
    unfold execDropCount
    rw [h.built_eq]
    split
    · exact h.inUse.returnDropCount
    · exact rfl
  | pure _ d hd =>
    rw [(hd s).1, (hd t).1]
    exact h.returnClass d

theorem startOp (h : WidthAlike s t) (i : Instr) : SameOutcome (startOp i s) (startOp i t) := by
  cases Instr.kind i with
  | reset k posw dropw => exact h.exec (.reset k posw dropw)
  | push c f =>
    cases hr : s.pushRefusal with
    | some e =>
      rw [(pushOperation_refused c f hr).2, (pushOperation_refused c f (h.pushRefusal_eq ▸ hr)).2]
      exact rfl
    | none =>
      rw [startOp_pushOperation c f hr, startOp_pushOperation c f (h.pushRefusal_eq ▸ hr)]
      exact h.pushLoad c f
  | notifyOther r f hne =>
    cases hr : s.pushRefusal with
    | some e =>
      rw [(notify_refused r f hr).2,
        (notify_refused r f (h.pushRefusal_eq ▸ hr)).2]
      exact rfl
    | none =>
      rw [(notify_other f hne hr).2, (notify_other f hne (h.pushRefusal_eq ▸ hr)).2]
      exact h
  | pop c =>
    cases hr : s.popRefusal with
    | some e =>
      rw [(popOperation_refused c hr).2, (popOperation_refused c (h.popRefusal_eq ▸ hr)).2]
      exact rfl
    | none =>
      rw [startOp_popOperation c hr, startOp_popOperation c (h.popRefusal_eq ▸ hr)]
      exact h.popLoad c
  | dropCount => exact h.exec .dropCount
  | pure i d hd =>
    rw [(hd s).2, (hd t).2]
    exact h.exec i

end WidthAlike

/-- Settles O48: the step is chosen by the pending moves, which are the same, and every operation and
micro-step answers alike. -/
theorem counterWidthIsNotObservable : Obligations.CounterWidthIsNotObservable := by
  intro s t h
  obtain hstep | ⟨r, hstep⟩ | ⟨rest, ⟨i, hstep⟩ | ⟨i, hstep⟩ | hstep | hstep⟩ :=
    step_by_inputs t.inputs <;> rw [hstep s h.inputs_eq, hstep t rfl]
  · exact h
  · exact rfl
  · exact (h.withInputs rest).exec i
  · exact (h.withInputs rest).startOp i
  · exact (h.withInputs rest).producerStep
  · exact (h.withInputs rest).consumerStep

end Sys2Proof.Machine
end

section
/-! PROOFS. The decoder's results as slices of the identifier (R87, R173, R186), and the conditions of the
classification rows as slices and as masks (R98). -/

namespace Sys2Proof.Machine

/-! ### What a slice determines -/

theorem getLsbD_of_slice_eq {w lo n i : Nat} {v v' : BitVec w}
    (h : v.extractLsb' lo n = v'.extractLsb' lo n) (hlo : lo ≤ i) (hi : i < lo + n) :
    v.getLsbD i = v'.getLsbD i := by
  have hbit := congrArg (·.getLsbD (i - lo)) h
  have hlt : i - lo < n := by omega
  simpa [BitVec.getLsbD_extractLsb', hlt, Nat.add_sub_cancel' hlo] using hbit

/-- Equal slices have equal slices. -/
theorem slice_of_slice_eq {w lo n lo' n' : Nat} {v v' : BitVec w}
    (h : v.extractLsb' lo n = v'.extractLsb' lo n) (hlo : lo ≤ lo') (hn : lo' + n' ≤ lo + n) :
    v.extractLsb' lo' n' = v'.extractLsb' lo' n' := by
  apply BitVec.eq_of_getLsbD_eq
  intro i hi
  rw [BitVec.getLsbD_extractLsb', BitVec.getLsbD_extractLsb',
    getLsbD_of_slice_eq h (by omega) (by omega)]

/-! ### The results as slices -/

theorem controlResult_eq_slices (id : Ident) (k : ContentClass) :
    controlResult id k = .control
      ⟨id.extractLsb' 12 15, k, id.extractLsb' 24 3, id.extractLsb' 0 12⟩ := by
  rw [controlResult, content_eq_slice, frameSeqNum_eq_slice, sourceNidAlias_eq_slice]

theorem namedResult_eq_slices (f : CanFrame) (c : BitVec 15) (k : ContentClass) :
    namedResult f c k = .control ⟨c, k, 0, f.id.extractLsb' 0 12⟩ := by
  rw [namedResult, sourceNidAlias_eq_slice]

theorem mtiResult_eq_slices (f : CanFrame) (k : MtiClass) :
    mtiResult f k = .openLcb ⟨1, .globalAddressedMti, some
      { mti := f.id.extractLsb' 12 12
        grossPriority := f.id.extractLsb' 22 2
        typeWithinPriority := f.id.extractLsb' 17 5
        simpleProtocol := f.id.extractLsb' 16 1
        addressPresent := f.id.extractLsb' 15 1
        eventPresent := f.id.extractLsb' 14 1
        messageModifier := f.id.extractLsb' 12 2
        sourceAddress := f.id.extractLsb' 0 12
        nodeAddressValid := nodeAddressValid f
        nodeAddress := nodeAddress f
        mtiClass := k }⟩ := by
  rw [mtiResult, mtiDetail, mti_eq_slice, grossPriority_eq_slice, typeWithinPriority_eq_slice,
    simpleProtocol_eq_slice, addressPresent_eq_slice, eventPresent_eq_slice,
    messageModifier_eq_slice, sourceAddress_eq_slice]

/-- An operation that hands back `d'` hands back `d` when the two are equal. -/
theorem ReturnsClass.of_eq {i : Instr} {s : State} {d d' : DecodedFrame}
    (hi : exec i s = .next (s.returnClass d')) (hd : d' = d) : ReturnsClass i s d := by
  subst hd
  exact hi

/-! ### The conditions of the rows as slices -/

theorem getLsbD_eq_false_iff (id : Ident) (i : Nat) :
    id.getLsbD i = false ↔ id.toNat / 2 ^ i % 2 = 0 := by
  rw [← not_getLsbD_iff, Bool.not_eq_true']

theorem isControl_iff_slices (id : Ident) (c : BitVec 15) :
    id.isControl c.toNat = true ↔ id.getLsbD 27 = false ∧ id.extractLsb' 12 15 = c := by
  rw [isControl_iff, getLsbD_eq_false_iff, ← toNat_slice, BitVec.toNat_inj]

theorem isFormat_iff_slices (id : Ident) (ff : BitVec 3) :
    id.isFormat ff.toNat = true ↔ id.getLsbD 27 = true ∧ id.extractLsb' 24 3 = ff := by
  rw [isFormat_iff_fields, getLsbD_iff, frameFormat_eq_slice]

theorem isMti_iff_slices (id : Ident) (gp : BitVec 2) (tw : BitVec 5) :
    id.isMti gp.toNat tw.toNat = true ↔
      id.isFormat 1 = true ∧ id.extractLsb' 22 2 = gp ∧ id.extractLsb' 17 5 = tw := by
  rw [isMti_iff_fields, grossPriority_eq_slice, typeWithinPriority_eq_slice]

theorem isConsumerIdentified_iff_slices (id : Ident) (mm : BitVec 2) :
    id.isConsumerIdentified mm.toNat = true ↔
      id.isFormat 1 = true ∧ id.extractLsb' 22 2 = 1 ∧ id.extractLsb' 17 5 = 0x06 ∧
        id.extractLsb' 12 2 = mm := by
  rw [isConsumerIdentified_iff_fields, grossPriority_eq_slice, typeWithinPriority_eq_slice,
    messageModifier_eq_slice]

/-! ### The conditions of the rows as masks -/

/-- The named rows' mask selects `id[27] == 0` and the content at once (R94). -/
theorem and_content_iff_isControl (id : Ident) (c : BitVec 15) :
    id &&& 0x0FFFF000 = place 32 (c.setWidth 16) 12 ↔ id.isControl c.toNat = true := by
  refine (and_place_eq_iff id (c.setWidth 16) 12 (by decide)).trans ?_
  rw [isControl_iff, BitVec.toNat_setWidth]
  omega

/-- The format rows' mask selects `id[27] == 1` and the format at once (R95). -/
theorem and_format_iff_isFormat (id : Ident) (ff : BitVec 3) :
    id &&& (0x0F000000 : Ident) = (0x08000000 : Ident) ||| place 32 ff 24 ↔
      id.isFormat ff.toNat = true := by
  have hpattern : ∀ ff : BitVec 3, let p := (0x08000000 : Ident) ||| place 32 ff 24;
      p &&& 0x0F000000 = p ∧ p.toNat / 2 ^ 24 % 2 ^ 4 = 8 + ff.toNat := by decide
  obtain ⟨hmask, hformat⟩ := hpattern ff
  rw [and_format _ _ hmask, hformat, isFormat_iff]
  omega

theorem and_type_iff_isMti (id : Ident) :
    id &&& 0x0FFE0000 = 0x09100000 ↔ id.isMti 0 0x08 = true := by
  rw [and_type _ _ (by decide), isMti_iff, isFormat_iff]
  simp only [BitVec.ofNat_eq_ofNat, BitVec.toNat_ofNat]
  omega

/-- The Consumer Identified rows' mask selects priority, type and modifier at once (R96). -/
theorem and_modifier_iff_isConsumerIdentified (id : Ident) (m : BitVec 2) :
    id &&& (0x0FFE3000 : Ident) = (0x094C0000 : Ident) ||| place 32 m 12 ↔
      id.isConsumerIdentified m.toNat = true := by
  have hpattern : ∀ m : BitVec 2, let p := (0x094C0000 : Ident) ||| place 32 m 12;
      p &&& 0x0FFE3000 = p ∧ p.toNat / 2 ^ 17 % 2 ^ 11 = 0x4A6 ∧
        p.toNat / 2 ^ 12 % 2 ^ 2 = m.toNat := by decide
  obtain ⟨hmask, htype, hmodifier⟩ := hpattern m
  rw [and_consumerIdentified _ _ hmask, htype, hmodifier, isConsumerIdentified_iff, isMti_iff,
    isFormat_iff]
  omega

end Sys2Proof.Machine
end

section
/-! PROOFS. What `CLASSIFY` returns and which bits it reads (R170, R202), and what each classification row
selects and returns (R174 to R200). -/

namespace Sys2Proof.Machine

/-! ### `CLASSIFY` -/

/-- Settles O10, a clause for each kind of frame. -/
theorem classifyReturnsTheDecodedFrame : Obligations.ClassifyReturnsTheDecodedFrame := by
  refine fun f s => ⟨fun hfam => ?_, fun hfam hne => ?_, fun hfam hone => ?_⟩ <;>
    refine ReturnsClass.of_eq (d' := classify f) rfl ?_
  · rw [classify_control ((getLsbD_eq_false_iff ..).1 hfam), controlResult_eq_slices,
      content_eq_slice]
  · exact classify_plain ((isFormat_iff_slices ..).2 ⟨hfam, rfl⟩) hne
  · rw [classify_formatOne ((isFormat_iff_slices f.id 1).2 ⟨hfam, hone⟩), mtiResult_eq_slices,
      grossPriority_eq_slice, typeWithinPriority_eq_slice, messageModifier_eq_slice]

/-! ### The bits the decoder does not read -/

theorem classify_congr_of_control {f g : CanFrame} (hfam : f.id.getLsbD 27 = false)
    (h : f.id.extractLsb' 0 28 = g.id.extractLsb' 0 28) : classify f = classify g := by
  have hfam' : g.id.getLsbD 27 = false := by
    rwa [← getLsbD_of_slice_eq h (by decide) (by decide)]
  rw [classify_control ((getLsbD_eq_false_iff ..).1 hfam),
    classify_control ((getLsbD_eq_false_iff ..).1 hfam'), controlResult_eq_slices,
    controlResult_eq_slices, content_eq_slice, content_eq_slice]
  simp (disch := decide) only [slice_of_slice_eq h]

/-- Family and format are `id[27:24]`. -/
theorem isFormat_congr {id id' : Ident} (h : id.extractLsb' 24 4 = id'.extractLsb' 24 4) (n : Nat) :
    id.isFormat n = id'.isFormat n := by
  rw [Ident.isFormat, Ident.isFormat, getLsbD_of_slice_eq h (by decide) (by decide),
    slice_of_slice_eq h (by decide) (by decide)]

theorem classify_congr_of_plain {f g : CanFrame} (hfam : f.id.getLsbD 27 = true)
    (hne : f.id.extractLsb' 24 3 ≠ 1) (h : f.id.extractLsb' 24 4 = g.id.extractLsb' 24 4) :
    classify f = classify g := by
  have hff := (isFormat_iff_slices ..).2 ⟨hfam, rfl⟩
  rw [classify_plain hff hne, classify_plain (isFormat_congr h _ ▸ hff) hne]

/-- A format-1 frame is read in `id[27:0]` and its node identifier. -/
theorem classify_congr_of_formatOne {f g : CanFrame} (hff : f.id.isFormat 1 = true)
    (h : f.id.extractLsb' 0 28 = g.id.extractLsb' 0 28)
    (hnode : nodeAddressValid f = nodeAddressValid g ∧ nodeAddress f = nodeAddress g) :
    classify f = classify g := by
  obtain ⟨hvalid, haddress⟩ := hnode
  have hff' : g.id.isFormat 1 = true := by
    rwa [← isFormat_congr (slice_of_slice_eq h (by decide) (by decide))]
  rw [classify_formatOne hff, classify_formatOne hff']
  simp (disch := decide) only [mtiResult_eq_slices, grossPriority_eq_slice,
    typeWithinPriority_eq_slice, messageModifier_eq_slice, hvalid, haddress, slice_of_slice_eq h]

/-- Settles O15, a clause for each kind of frame; the node identifier is absent, or the six bytes. -/
theorem decoderIgnoresUnusedBits : Obligations.DecoderIgnoresUnusedBits := by
  refine fun f g => ⟨classify_congr_of_control, classify_congr_of_plain,
    fun hff h hf hg => ?_, fun hff h hf hg h₀ h₁ h₂ h₃ h₄ h₅ => ?_⟩ <;>
    refine classify_congr_of_formatOne ((and_format_eq_one_iff _).1 hff) h ?_
  · obtain ⟨hvalid, haddress⟩ := nodeAddress_of_dlc_ne_six hf
    rw [hvalid, haddress]
    exact (nodeAddress_of_dlc_ne_six hg).imp .symm .symm
  · obtain ⟨hvalid, haddress⟩ := nodeAddress_of_dlc_six hf
    rw [hvalid, haddress, h₀, h₁, h₂, h₃, h₄, h₅]
    exact (nodeAddress_of_dlc_six hg).imp .symm .symm

/-! ### The control rows -/

/-- A pattern that is a content at bit 12 selects the row of that content, with the result that the
rule of a content below 0x1000 writes out. -/
theorem namedRow (f : CanFrame) (s : State) {i : Instr} {c : BitVec 15} {k : ContentClass}
    {pattern : Ident} (hp : pattern = place 32 (c.setWidth 16) 12) (hlt : c < 0x1000)
    (hrow : controlRowOf f c.toNat = i) (hk : contentClassOf c = k) :
    (f.id &&& 0x0FFFF000 = pattern ↔ f.id.getLsbD 27 = false ∧ f.id.extractLsb' 12 15 = c) ∧
    (f.id &&& 0x0FFFF000 = pattern →
      decodeFrame f = .ok i ∧ ReturnsClass i s (.control ⟨c, k, 0, f.id.extractLsb' 0 12⟩) ∧
      classify f = .control ⟨c, k, 0, f.id.extractLsb' 0 12⟩) := by
  rw [hp, and_content_iff_isControl]
  refine ⟨isControl_iff_slices .., fun hsel => ?_⟩
  have hdec : decodeFrame f = .ok i := hrow ▸ decodeFrame_of_isControl hsel
  have hd := classify_named hsel hlt
  rw [hk, namedResult_eq_slices] at hd
  exact ⟨hdec, .of_eq (tableRowsAgreeWithClassify f i s (.inl hdec)) hd, hd⟩

/-- Settles O16: each of the eight patterns is its content at bit 12. -/
theorem namedControlRows : Obligations.NamedControlRows := by
  intro f s make c k pattern hmem
  simp only [List.mem_cons, Prod.mk.injEq, List.not_mem_nil, or_false] at hmem
  rcases hmem with ⟨rfl, rfl, rfl, rfl⟩ | ⟨rfl, rfl, rfl, rfl⟩ | ⟨rfl, rfl, rfl, rfl⟩ |
    ⟨rfl, rfl, rfl, rfl⟩ | ⟨rfl, rfl, rfl, rfl⟩ | ⟨rfl, rfl, rfl, rfl⟩ | ⟨rfl, rfl, rfl, rfl⟩ |
    ⟨rfl, rfl, rfl, rfl⟩ <;>
  exact namedRow f s (by decide) (by decide) rfl rfl

/-! ### `CID` -/

/-- The table gives a row exactly when the row's own rule selects the frame. -/
theorem decodeFrame_iff_wellFormed {f : CanFrame} {i : Instr}
    (he : encode i = (.frame, frameWord f)) : decodeFrame f = .ok i ↔ i.wellFormed = true := by
  refine ⟨fun h => (decodeFrame_ok h).1, fun h => ?_⟩
  have hdec := encodeThenDecode i h
  rwa [he, decode_frameWord] at hdec

theorem checkId_iff_slices (id : Ident) :
    0x1000 < (id.extractLsb' 12 15).toNat ↔
      id.extractLsb' 25 2 ≠ 0 ∨ (id.extractLsb' 24 3 = 1 ∧ id.extractLsb' 12 12 ≠ 0) := by
  simp only [ne_eq, ← BitVec.toNat_inj, toNat_slice, BitVec.ofNat_eq_ofNat, BitVec.toNat_ofNat]
  omega

/-- The three rows cut the contents above 0x1000 at 0x2000 and 0x4000. -/
theorem decodeFrame_checkId_iff (f : CanFrame) :
    (∃ i, decodeFrame f = .ok i ∧ (i = .cidHi f ∨ i = .cidMid f ∨ i = .cidLo f)) ↔
      f.id.getLsbD 27 = false ∧ 0x1000 < (f.id.extractLsb' 12 15).toNat := by
  simp only [and_or_left, exists_or, exists_eq_right,
    decodeFrame_iff_wellFormed (i := .cidHi f) rfl, decodeFrame_iff_wellFormed (i := .cidMid f) rfl,
    decodeFrame_iff_wellFormed (i := .cidLo f) rfl, wellFormed_cidHi_iff, wellFormed_cidMid_iff,
    wellFormed_cidLo_iff, getLsbD_eq_false_iff, toNat_slice]
  omega

/-- Settles O17: the rows together, and each with the one result they share. -/
theorem checkIdRows : Obligations.CheckIdRows := by
  intro f s d
  have hd : controlResult f.id .cid = d := controlResult_eq_slices ..
  refine ⟨checkId_iff_slices _, decodeFrame_checkId_iff f, fun hfam hlt => ⟨?_, ?_⟩,
    fun _ => .of_eq rfl hd, fun _ => .of_eq rfl hd, fun _ => .of_eq rfl hd⟩
  · rw [getLsbD_eq_false_iff] at hfam
    rw [toNat_slice] at hlt
    rw [← hd, classify_checkId hfam hlt]
  · rw [toNat_slice] at *
    omega

/-! ### `CTRL_RESERVED` -/

/-- The two rows cover the three ranges of R183, the second its last content. -/
theorem decodeFrame_reserved_iff (f : CanFrame) :
    (∃ i, decodeFrame f = .ok i ∧ (i = .ctrlReserved f ∨ i = .ctrlReserved1000 f)) ↔
      f.id.getLsbD 27 = false ∧
        contentClassCovers (f.id.extractLsb' 12 15) .ctrlReserved := by
  have hlast : (Instr.ctrlReserved1000 f).wellFormed = f.id.isControl 0x1000 := rfl
  simp only [and_or_left, exists_or, exists_eq_right,
    decodeFrame_iff_wellFormed (i := .ctrlReserved f) rfl,
    decodeFrame_iff_wellFormed (i := .ctrlReserved1000 f) rfl, wellFormed_ctrlReserved_iff, hlast,
    not_named_iff, isControl_iff, contentClassCovers, getLsbD_eq_false_iff, toNat_slice]
  omega

/-- Only the last reserved content has a nonzero `frameSeqNum`. -/
theorem frameSeqNum_of_reserved {id : Ident}
    (h : contentClassCovers (id.extractLsb' 12 15) .ctrlReserved) :
    id.extractLsb' 24 3 = if (id.extractLsb' 12 15).toNat = 0x1000 then 1 else 0 := by
  simp only [contentClassCovers, toNat_slice] at *
  apply BitVec.eq_of_toNat_eq
  split <;> simp only [toNat_slice, BitVec.ofNat_eq_ofNat, BitVec.toNat_ofNat] <;> omega

/-- Settles O18: the rows together, and each with the one result they share. -/
theorem reservedControlRows : Obligations.ReservedControlRows := by
  intro f s c d
  have hd : controlResult f.id .ctrlReserved = d := controlResult_eq_slices ..
  refine ⟨decodeFrame_reserved_iff f, fun hfam hc => ⟨?_, frameSeqNum_of_reserved hc⟩,
    fun _ => .of_eq rfl hd, fun _ => .of_eq rfl hd⟩
  rw [← hd]
  refine classify_of_contentClass ((getLsbD_eq_false_iff ..).1 hfam) ?_
  rw [content_eq_slice]
  exact hc

/-! ### The OpenLCB rows -/

/-- A pattern that is `id[27]` set and a format at bit 24 selects the row of that format. -/
theorem plainRow {f : CanFrame} (s : State) {i : Instr} {ff : BitVec 3} {k : FormatClass}
    {pattern : Ident} (hp : pattern = (0x08000000 : Ident) ||| place 32 ff 24) (hne : ff ≠ 1)
    (hrow : openLcbRowOf f ff.toNat = i) (hk : formatClassOf ff = k)
    (hsel : f.id &&& 0x0F000000 = pattern) :
    decodeFrame f = .ok i ∧ ReturnsClass i s (.openLcb ⟨ff, k, none⟩) ∧
      classify f = .openLcb ⟨ff, k, none⟩ := by
  have hff : f.id.isFormat ff.toNat = true := (and_format_iff_isFormat ..).1 (hsel.trans hp)
  have hdec : decodeFrame f = .ok i := hrow ▸ decodeFrame_of_isFormat hff
  have hd : classify f = .openLcb ⟨ff, k, none⟩ := hk ▸ classify_plain hff hne
  exact ⟨hdec, .of_eq (tableRowsAgreeWithClassify f i s (.inl hdec)) hd, hd⟩

/-- Settles O19: each of the seven patterns is its format at bit 24, with `id[27]` set. -/
theorem plainOpenLcbRows : Obligations.PlainOpenLcbRows := by
  intro f s make ff k pattern hmem hsel
  simp only [List.mem_cons, Prod.mk.injEq, List.not_mem_nil, or_false] at hmem
  rcases hmem with ⟨rfl, rfl, rfl, rfl⟩ | ⟨rfl, rfl, rfl, rfl⟩ | ⟨rfl, rfl, rfl, rfl⟩ |
    ⟨rfl, rfl, rfl, rfl⟩ | ⟨rfl, rfl, rfl, rfl⟩ | ⟨rfl, rfl, rfl, rfl⟩ | ⟨rfl, rfl, rfl, rfl⟩ <;>
  exact plainRow s (by decide) (by decide) rfl rfl hsel

/-- Settles O20: the row looks its class up as `classify` does. -/
theorem globalAddressedMtiRow : Obligations.GlobalAddressedMtiRow := by
  intro f s hsel
  refine ⟨decodeFrame_of_isFormat ((and_format_eq_one_iff _).1 hsel), .of_eq rfl ?_⟩
  rw [mtiResult_eq_slices, grossPriority_eq_slice, typeWithinPriority_eq_slice,
    messageModifier_eq_slice]

/-! ### The MTI rows -/

/-- Settles O21: a row's mask is its rule's condition, which selects the row, and the rows differ in the
class alone. -/
theorem mtiRows : Obligations.MtiRows := by
  intro f s hsel gp tw mm d row
  have hff := (and_format_eq_one_iff _).1 hsel
  have hd : ∀ k, mtiResult f k = d k := mtiResult_eq_slices f
  have hmti : ∀ gp' tw', f.id.isMti gp'.toNat tw'.toNat = true ↔ gp = gp' ∧ tw = tw' :=
    fun gp' tw' => (isMti_iff_slices f.id gp' tw').trans (and_iff_right hff)
  have hconsumer : ∀ m, f.id.isConsumerIdentified m.toNat = true ↔ gp = 1 ∧ tw = 0x06 ∧ mm = m :=
    fun m => (isConsumerIdentified_iff_slices f.id m).trans (and_iff_right hff)
  have hvariant : ∀ m, gp = 1 → tw = 0x06 → mm = m → decodeMti f = .ok (mtiRowOf f 0x26 m.toNat) :=
    fun m hgp htw hmm => decodeMti_of_isConsumerIdentified ((hconsumer m).2 ⟨hgp, htw, hmm⟩)
  refine ⟨(and_type_iff_isMti _).trans (hmti 0 0x08),
    fun m => (and_modifier_iff_isConsumerIdentified _ m).trans (hconsumer m),
    fun hgp htw => ⟨decodeMti_of_isMti ((hmti 0 0x08).2 ⟨hgp, htw⟩), .of_eq rfl (hd _)⟩,
    fun hgp htw hmm => ⟨hvariant 0 hgp htw hmm, .of_eq rfl (hd _)⟩,
    fun hgp htw hmm => ⟨hvariant 1 hgp htw hmm, .of_eq rfl (hd _)⟩,
    fun hgp htw hmm => ⟨hvariant 2 hgp htw hmm, .of_eq rfl (hd _)⟩,
    fun hgp htw hmm => ⟨hvariant 3 hgp htw hmm, .of_eq rfl (hd _)⟩,
    fun hother => ⟨decodeMti_undeciphered ?_, .of_eq rfl (hd _)⟩⟩
  have hundeciphered : ¬(gp = 0 ∧ tw = 0x08) ∧ ¬(gp = 1 ∧ tw = 0x06) := by grind
  rw [← hmti, ← hmti] at hundeciphered
  exact (wellFormed_mtiUndeciphered_iff f).2 ⟨hff, hundeciphered⟩

end Sys2Proof.Machine
end

section
/-! PROOFS. The composed operations (R230, R232): `NOTIFY` against `PUSH`, and `CONSUME_ITER` run whole and
by micro-steps. -/

namespace Sys2Proof.Machine

/-- The push of a `NOTIFY` does what that of a `PUSH` does, less the result (R230). -/
theorem pushWhole_notify_eq (f : CanFrame) (s : State) :
    pushWhole .notify f s = { pushWhole .push f s with returns := s.returns } := by
  cases hfull : s.full with
  | true => rw [pushWhole_of_full _ f hfull, pushWhole_of_full _ f hfull]; rfl
  | false => rw [pushWhole_of_room _ f hfull, pushWhole_of_room _ f hfull]; rfl

/-- Settles O27: both begin alike, and their pushes differ in the result alone. -/
theorem notifyIsPushWithoutResult : Obligations.NotifyIsPushWithoutResult := by
  intro f s hb hp
  have hbegin := State.pushRefusal_eq_none.2 ⟨hb, hp⟩
  exact ⟨⟨_, exec_pushOperation .push f hbegin,
      (exec_pushOperation .notify f hbegin).trans (congrArg _ (pushWhole_notify_eq f s))⟩,
    fun _ hr => (notify_other f hr hbegin).1⟩

/-- Settles O28: an iteration that may begin finds the queue empty or a frame in its slot. -/
theorem consumeIterReportsOneFrame : Obligations.ConsumeIterReportsOneFrame := by
  intro s hb hc ha
  have hbegin := State.popRefusal_eq_none.2 ⟨hb, hc, ha⟩
  exact ⟨exec_popOperation_of_empty .consumeIter hbegin,
    fun _ hne hg => exec_popOperation_of_some .consumeIter hbegin hne hg⟩

/-- Settles O36, a lemma for each phase of the consumer, the report's with them. -/
theorem consumeIterMicroSteps : Obligations.ConsumeIterMicroSteps := by
  intro s ha
  refine ⟨fun hb hc => ?_, fun p g hc hg => ?_, fun p g hc => consumerStep_of_read ha hc,
    fun g hc => consumerStep_of_reporting ha hc⟩
  · have hload := startOp_popOperation .consumeIter (State.popRefusal_eq_none.2 ⟨hb, hc, ha⟩)
    exact ⟨fun he => hload.trans (congrArg _ (popLoad_of_empty .consumeIter he)),
      fun hne => hload.trans (congrArg _ (popLoad_of_nonempty .consumeIter hne))⟩
  · rw [consumerStep_of_loaded ha hc, popRead_of_some .consumeIter p hg]

end Sys2Proof.Machine
end

section
/-! PROOFS. Quiescence (R237): the slots an agent's phase still asks for, and a run of pending slots that
grants them. -/

namespace Sys2Proof.Machine

/-! ### The slots a phase asks for -/

/-- The slots after which the producer's phase is `IDLE` at the latest (R132). -/
def ProducerPhase.slots : ProducerPhase → Nat
  | .idle => 0
  | .written => 1
  | .loaded => 2

/-- The slots after which the consumer's phase is `IDLE` (R138). An iteration's report is not counted:
its phase is `IDLE` (R141; log entry 24). -/
def ConsumerPhase.slots : ConsumerPhase → Nat
  | .idle => 0
  | .read => 1
  | .loaded => 2

theorem ProducerPhase.slots_eq_zero {p : ProducerPhase} : p.slots = 0 ↔ p = .idle := by
  cases p <;> simp [slots]

theorem ConsumerPhase.slots_eq_zero {c : ConsumerPhase} : c.slots = 0 ↔ c = .idle := by
  cases c <;> simp [slots]

theorem ProducerPhase.slots_le (p : ProducerPhase) : p.slots ≤ 2 := by
  cases p <;> simp [slots]

theorem ConsumerPhase.slots_le (c : ConsumerPhase) : c.slots ≤ 2 := by
  cases c <;> simp [slots]

theorem Producer.phase_eq_idle {p : Producer} : p.phase = .idle ↔ p = .idle := by
  cases p <;> simp

theorem Consumer.phase_eq_idle {c : Consumer} :
    c.phase = .idle ↔ c = .idle ∨ ∃ g, c = .reporting g := by
  cases c <;> simp

/-- A quiescent state is one whose phases ask for no slot (R237). -/
theorem State.quiescent_iff_slots {s : State} :
    s.quiescent = true ↔ s.producer.phase.slots = 0 ∧ s.consumer.phase.slots = 0 := by
  rw [State.quiescent_iff, ProducerPhase.slots_eq_zero, ConsumerPhase.slots_eq_zero]

/-- A slot of the producer leaves it one less to ask for; a drop leaves it none (R134). -/
theorem producerStep_slots_le (s : State) :
    (producerStep s).producer.phase.slots ≤ s.producer.phase.slots - 1 := by
  rcases producerStep_cases s with
    ⟨hp, e⟩ | ⟨c, f, q, hp, -, e⟩ | ⟨c, f, q, hp, -, e⟩ | ⟨c, f, q, hp, e⟩ <;>
    simp [e, hp, ProducerPhase.slots]

/-- A slot of the consumer leaves it one less to ask for. -/
theorem consumerStep_slots {s t : State} (h : consumerStep s = .next t) :
    t.consumer.phase.slots = s.consumer.phase.slots - 1 := by
  obtain ⟨-, ⟨hc, rfl⟩ | ⟨c, p, g, hc, -, rfl⟩ | ⟨c, p, g, hc, rfl⟩ | ⟨g, hc, rfl⟩⟩ :=
    consumerStep_cases h <;> rw [hc]
  · rfl
  · rfl
  · cases c <;> rfl
  · rfl

/-! ### The schedule and the pending moves are the environment's (R11, R39) -/

theorem producerStep_environment (s : State) :
    (producerStep s).sched = s.sched ∧ (producerStep s).inputs = s.inputs := by
  rcases producerStep_cases s with
    ⟨-, e⟩ | ⟨c, f, q, -, -, e⟩ | ⟨c, f, q, -, -, e⟩ | ⟨c, f, q, -, e⟩ <;> rw [e]
  · exact ⟨rfl, rfl⟩
  · cases c <;> exact ⟨rfl, rfl⟩
  · exact ⟨rfl, rfl⟩
  · cases c <;> exact ⟨rfl, rfl⟩

theorem consumerStep_environment {s t : State} (h : consumerStep s = .next t) :
    t.sched = s.sched ∧ t.inputs = s.inputs := by
  obtain ⟨-, ⟨-, rfl⟩ | ⟨c, p, g, -, -, rfl⟩ | ⟨c, p, g, -, rfl⟩ | ⟨g, -, rfl⟩⟩ :=
    consumerStep_cases h
  · exact ⟨rfl, rfl⟩
  · exact ⟨rfl, rfl⟩
  · cases c <;> exact ⟨rfl, rfl⟩
  · exact ⟨rfl, rfl⟩

/-! ### Pending slots that grant what the phases ask for -/

/-- No slot of the producer comes after one of the consumer. -/
def ProducerFirst (inputs : List Input) : Prop :=
  inputs.Pairwise fun m n => m = .consumer → n ≠ .producer

/-- Only slots of the two agents are pending, as many of each as its phase asks for, and the consumer's are
admitted when their turn comes: the schedule admits every slot, or the producer's come first (R11). -/
structure State.SlotsSuffice (s : State) : Prop extends s.FifoInv where
  agents : ∀ m ∈ s.inputs, m = .producer ∨ m = .consumer
  producer_le : s.producer.phase.slots ≤ s.inputs.count .producer
  consumer_le : s.consumer.phase.slots ≤ s.inputs.count .consumer
  order : s.sched = .fullInterleave ∨ ProducerFirst s.inputs

namespace State.SlotsSuffice

variable {s : State} {rest : List Input}

/-- Where the consumer's slot is next, the schedule admits every slot, or no slot of the producer is left,
so that its push has returned. -/
theorem consumerAdmitted (h : s.SlotsSuffice) (hs : s.inputs = .consumer :: rest) :
    s.consumerAdmitted = true := by
  rcases h.order with hfull | hfirst
  · simp [State.consumerAdmitted, hfull]
  · have hnone : s.inputs.count .producer = 0 := by
      rw [hs, ProducerFirst, List.pairwise_cons] at hfirst
      rw [hs, List.count_eq_zero, List.mem_cons, not_or]
      exact ⟨nofun, fun hmem => hfirst.1 _ hmem rfl rfl⟩
    have hidle := ProducerPhase.slots_eq_zero.1 (Nat.le_zero.1 (hnone ▸ h.producer_le))
    exact State.consumerAdmitted_of_producer_idle (Producer.phase_eq_idle.1 hidle)

/-- What is left of the pending slots suffices for a state that asks for no more than they grant. -/
theorem tail {t : State} {m : Input} (h : s.SlotsSuffice) (hs : s.inputs = m :: rest) (ht : t.FifoInv)
    (henv : t.sched = s.sched ∧ t.inputs = rest)
    (hp : t.producer.phase.slots ≤ rest.count .producer)
    (hc : t.consumer.phase.slots ≤ rest.count .consumer) : t.SlotsSuffice := by
  obtain ⟨hsched, rfl⟩ := henv
  have horder := h.order
  rw [hs] at horder
  exact { ht with
    agents := fun n hn => h.agents n (hs ▸ List.mem_cons_of_mem m hn)
    producer_le := hp
    consumer_le := hc
    order := horder.imp hsched.trans List.Pairwise.of_cons }

theorem producerSlot (h : s.SlotsSuffice) (hs : s.inputs = .producer :: rest) :
    (producerStep (s.withInputs rest)).SlotsSuffice := by
  have hp : s.producer.phase.slots ≤ rest.count .producer + 1 := by simpa [hs] using h.producer_le
  have hc : s.consumer.phase.slots ≤ rest.count .consumer := by simpa [hs] using h.consumer_le
  have hstep := producerStep_slots_le (s.withInputs rest)
  refine h.tail hs
    (fifoInv_keptByMicroSteps.producerStep (fifoInv_keptByMicroSteps.withInputs rest h.toFifoInv))
    (producerStep_environment _) (hstep.trans (Nat.sub_le_of_le_add hp)) ?_
  rw [(producerStep_sameConsumerPart _).consumer]
  exact hc

theorem consumerSlot (h : s.SlotsSuffice) (hs : s.inputs = .consumer :: rest) :
    ∃ t, consumerStep (s.withInputs rest) = .next t ∧ t.inputs = rest ∧ t.SlotsSuffice := by
  have hin := fifoInv_keptByMicroSteps.withInputs rest h.toFifoInv
  obtain ⟨t, ht, -⟩ := hin.consumerStep_next (h.consumerAdmitted hs)
  have hp : s.producer.phase.slots ≤ rest.count .producer := by simpa [hs] using h.producer_le
  have hc : s.consumer.phase.slots ≤ rest.count .consumer + 1 := by simpa [hs] using h.consumer_le
  have henv := consumerStep_environment ht
  refine ⟨t, ht, henv.2, h.tail hs (fifoInv_keptByMicroSteps.consumerStep hin ht) henv ?_
    ((consumerStep_slots ht).trans_le (Nat.sub_le_of_le_add hc))⟩
  rw [(consumerStep_sameProducerPart ht).producer]
  exact hp

/-- The next slot is taken, and the rest still suffice. -/
theorem step {m : Input} (h : s.SlotsSuffice) (hs : s.inputs = m :: rest) :
    ∃ t, step s = .next t ∧ t.inputs = rest ∧ t.SlotsSuffice := by
  rcases h.agents m (hs ▸ List.mem_cons_self) with rfl | rfl
  · exact ⟨_, step_producer hs, (producerStep_environment _).2, h.producerSlot hs⟩
  · rw [step_consumer hs]
    exact h.consumerSlot hs

/-- With no slot left none is asked for. -/
theorem quiescent (h : s.SlotsSuffice) (hs : s.inputs = []) : s.quiescent = true :=
  State.quiescent_iff_slots.2
    ⟨Nat.le_zero.1 (by simpa [hs] using h.producer_le),
      Nat.le_zero.1 (by simpa [hs] using h.consumer_le)⟩

/-- The pending slots are all taken, and the state they leave is quiescent. -/
theorem stepAll : ∀ {inputs : List Input} {s : State}, s.SlotsSuffice → s.inputs = inputs →
    ∃ t, stepAll inputs.length s = .next t ∧ t.inputs = [] ∧ t.quiescent = true
  | [], s, h, hs => ⟨s, rfl, hs, h.quiescent hs⟩
  | _ :: rest, _, h, hs => by
    obtain ⟨u, hu, hrest, hsuffice⟩ := h.step hs
    simpa [Machine.stepAll, hu] using hsuffice.stepAll hrest

/-- Two slots of each agent suffice in every state, the order in which they come granted (R237). -/
theorem of_two_slots (h : s.FifoInv) (hagents : ∀ m ∈ s.inputs, m = .producer ∨ m = .consumer)
    (hp : 2 ≤ s.inputs.count .producer) (hc : 2 ≤ s.inputs.count .consumer)
    (horder : s.sched = .fullInterleave ∨ ProducerFirst s.inputs) : s.SlotsSuffice :=
  { h with
    agents := hagents
    producer_le := (ProducerPhase.slots_le _).trans hp
    consumer_le := (ConsumerPhase.slots_le _).trans hc
    order := horder }

end State.SlotsSuffice

/-! ### The obligation -/

theorem State.AtRest.quiescent {s : State} (h : s.AtRest) : s.quiescent = true :=
  State.quiescent_iff.2 (by simp [h.producer_idle, h.consumer_idle])

/-- A frame pushed into a queue of two slots is held while nothing is in progress. -/
theorem exists_quiescent_holding : ∃ s : State, s.FifoInv ∧ s.quiescent = true ∧ 0 < s.occ := by
  have hrest := (State.AtRest.construct (p := ⟨1, 1, 1⟩) .reset (by decide)).pushWhole .push
    ⟨0, 0, ⟨0, 0, 0, 0, 0, 0, 0, 0⟩⟩
  exact ⟨_, hrest.toFifoInv, hrest.quiescent, by decide⟩

/-- Settles O55: the test by the phases, a frame held in a quiescent state, and two slots of each agent,
in any order where every slot is admitted, the producer's first under either schedule. -/
theorem quiescenceIsReached : Obligations.QuiescenceIsReached := by
  refine ⟨fun s => ?_, exists_quiescent_holding, fun s h hfull hagents hp hc => ?_,
    fun s h hs => ?_⟩
  · rw [State.quiescent_iff, Producer.phase_eq_idle, Consumer.phase_eq_idle]
  · exact (State.SlotsSuffice.of_two_slots h hagents hp hc (.inl hfull)).stepAll rfl
  · have hsuffice : s.SlotsSuffice := by
      refine .of_two_slots h ?_ ?_ ?_ (.inr ?_) <;> rw [hs]
      · simp
      · decide
      · decide
      · simp [ProducerFirst]
    exact hsuffice.stepAll hs

end Sys2Proof.Machine
end

section
/-! PROOFS. Stale snapshots (R258): a push that loaded its snapshot before a pop made room, and a pop
that loaded its own before a push published. -/

namespace Sys2Proof.Machine

/-! ### A push decides on the snapshot it loaded -/

/-- A counter of at least one bit moves when it is incremented, at its wrap too (R14). -/
theorem wrapInc_ne {w : Nat} (hw : 1 ≤ w) (x : Nat) : wrapInc w x ≠ x := by
  have hbase : 1 < 2 ^ w := Nat.one_lt_two_pow (Nat.ne_of_gt hw)
  intro e
  have hx : x < 2 ^ w := e ▸ Nat.mod_lt (x + 1) (Nat.two_pow_pos w)
  have hcycle : 1 ≡ 0 [MOD 2 ^ w] :=
    Nat.ModEq.add_left_cancel' x (e.trans (Nat.mod_eq_of_lt hx).symm)
  exact Nat.one_ne_zero ((Nat.mod_eq_of_lt hbase).symm.trans hcycle)

/-- The drop of a push whose snapshot is full is seen in `dropCount` (R134). -/
theorem State.CapacityInv.producerStep_counts_drop {s : State} {c : PushCaller} {f : CanFrame}
    {q : Nat} (h : s.CapacityInv) (hp : s.producer = .loaded c f q)
    (hfull : fullAt s.params s.pushPosition q = true) :
    (producerStep s).dropCount ≠ s.dropCount := by
  rw [producerStep_of_full hp hfull]
  simpa [pushDrop] using wrapInc_ne h.legal.2 s.dropCount

/-- A push that loaded in a full queue of two slots drops, though a pop after its load has emptied
the queue (R258 (b)). -/
theorem State.AtRest.stale_push_drops {s : State} (h : s.AtRest) (hs : s.sched = .fullInterleave)
    (hfull : s.full = true) (hk : s.params.k = 1) (c : PushCaller) (f : CanFrame) :
    ∃ t, exec .pop (pushLoad c f s) = .next t ∧ t.FifoInv ∧ t.occ = 0 ∧ 0 < t.params.k ∧
      (producerStep t).dropCount ≠ t.dropCount := by
  have hload := h.toFifoInv.pushLoad c f
  have hone : s.pushed = s.popped + 1 := by
    have hcap : s.params.cap = 2 := by rw [Params.cap, hk, Nat.pow_one]
    have hfull := h.full_iff.1 hfull
    omega
  have hbegin : (pushLoad c f s).popRefusal = none :=
    State.popRefusal_eq_none.2
      ⟨rfl, h.consumer_idle, by simp [State.consumerAdmitted, pushLoad, hs]⟩
  obtain ⟨g, -, hpop⟩ := hload.exec_popOperation .pop hbegin (hone ▸ Nat.lt_succ_self s.popped)
  have ht := fifoInv_keptByMicroSteps.exec hload hpop
  refine ⟨_, hpop, ht, ?_, hk ▸ Nat.one_pos, ht.producerStep_counts_drop rfl hfull⟩
  have hpopped : (popTake .pop g (pushLoad c f s).inUse).popped = s.popped + 1 :=
    State.popped_advance s g
  rw [ht.occ_eq, hpopped, ← hone]
  exact Nat.sub_self s.pushed

/-! ### A pop decides on the snapshot it loaded -/

section
variable {s : State} {c : PushCaller} {f : CanFrame} {q : Nat}

/-- With no frame held, the slot a pop would read holds the frame staged (R135). -/
theorem State.FifoInv.pullSlot_holds_staged (h : s.FifoInv) (hf : s.producer.staged = some f)
    (he : s.pushPosition = s.pullPosition) : s.slotRead s.pullSlot = some f := by
  rw [h.pullSlot_eq, ← h.empty_iff.1 he]
  exact h.staged_at f hf

/-- Once the only frame is published, the next pop returns it. -/
theorem State.FifoInv.pop_after_publish (h : s.FifoInv) (hp : s.producer = .written c f q)
    (hb : s.built = true) (hc : s.consumer = .idle) (he : s.pushPosition = s.pullPosition) :
    ∃ u, exec .pop (producerStep s) = .next u ∧ u.returns.pop = some (some f) := by
  have hpublished := fifoInv_keptByMicroSteps.producerStep h
  rw [producerStep_of_written hp] at hpublished ⊢
  have hstored : (pushPublish c f s).ghost.stored = s.ghost.stored ++ [f] := by simp [pushPublish]
  have hpopped : (pushPublish c f s).popped = s.ghost.stored.length := by
    simpa [State.popped, State.pushed, pushPublish] using (h.empty_iff.1 he).symm
  obtain ⟨hheld, -⟩ := popReturnsTheOldestFrame _ hpublished
    (by simpa [State.built, pushPublish] using hb) (by simpa [pushPublish] using hc)
    (State.consumerAdmitted_of_producer_idle (pushPublish_producer c f s))
  obtain ⟨g, u, hg, hpop, hreturn, -⟩ := hheld (by simp [hpopped, State.pushed, hstored])
  obtain rfl : f = g := by simpa [hstored, hpopped] using hg
  exact ⟨u, hpop, hreturn⟩

/-- A pop that loads before the only frame is published returns `none`; after the publish the next
pop returns that frame (R258 (a)). -/
theorem State.FifoInv.stale_pop_misses (h : s.FifoInv) (hp : s.producer = .written c f q)
    (hbegin : s.popRefusal = none) (he : s.pushPosition = s.pullPosition) :
    ∃ t u, startOp .pop s = .next t ∧ t.returns.pop = some none ∧ t.consumer = .idle ∧
      exec .pop (producerStep t) = .next u ∧ u.returns.pop = some (some f) := by
  obtain ⟨-, hc, -⟩ := State.popRefusal_eq_none.1 hbegin
  have hstart := startOp_popOperation .pop hbegin
  rw [popLoad_of_empty .pop he] at hstart
  obtain ⟨u, hpop, hreturn⟩ :=
    (fifoInv_keptByMicroSteps.startOp h hstart).pop_after_publish hp rfl hc he
  exact ⟨_, u, hstart, rfl, hc, hpop, hreturn⟩

end

/-! ### The obligation -/

/-- The all-zero frame. -/
def zeroFrame : CanFrame := ⟨0, 0, ⟨0, 0, 0, 0, 0, 0, 0, 0⟩⟩

/-- A fresh queue of two slots, in use, every interleaving admitted. -/
def freshPair : State := State.reset.construct ⟨1, 1, 1⟩

theorem freshPair_atRest : freshPair.AtRest := .construct .reset (by decide)

/-- That queue with a push past its write and before its publish. -/
def unpublishedPair : State := pushWrite .push zeroFrame 0 (pushLoad .push zeroFrame freshPair)

theorem unpublishedPair_fifoInv : unpublishedPair.FifoInv :=
  (freshPair_atRest.toFifoInv.pushLoad .push zeroFrame).pushWrite rfl (by decide)

/-- Settles O54: one frame fills a queue of two slots (R31), so a push begun then drops on its snapshot;
and the first push of all, not yet published, is missed by the pop that starts there. -/
theorem staleSnapshotsAreAdmitted : Obligations.StaleSnapshotsAreAdmitted := by
  constructor
  · have hrest := freshPair_atRest.pushWhole .push zeroFrame
    obtain ⟨t, -, h⟩ := hrest.stale_push_drops rfl (by decide) rfl .push zeroFrame
    exact ⟨t, h⟩
  · obtain ⟨t, u, hpops⟩ := unpublishedPair_fifoInv.stale_pop_misses rfl (by decide) rfl
    exact ⟨unpublishedPair, t, u, zeroFrame, unpublishedPair_fifoInv, rfl,
      unpublishedPair_fifoInv.pullSlot_holds_staged rfl rfl, rfl, rfl, hpops⟩

end Sys2Proof.Machine
end

section
/-! PROOFS. The construction (R280 to R283): what a `RESET` answers in each of its cases, the empty queue
it leaves, and which raw capacities give a `K` (R254). -/

namespace Sys2Proof.Machine

/-! ### What a `RESET` answers -/

section
variable {s : State} {k posw dropw : Nat}

/-- A second construction is refused whatever its sizes (R283). -/
theorem exec_reset_of_running (h : s.lifecycle = .running) :
    exec (.reset k posw dropw) s = .refused .secondReset := by
  simp [exec, execReset, h]

/-- While no queue is in use, only the sizes decide (R282; log entry 18). -/
theorem exec_reset_of_not_running (h : s.lifecycle ≠ .running) :
    exec (.reset k posw dropw) s =
      if posw < k then .refused .positionTooNarrow
      else if dropw = 0 then .refused .dropCounterTooNarrow
      else .next (s.construct ⟨k, posw, dropw⟩) := by
  cases hl : s.lifecycle with
  | running => exact absurd hl h
  | unbuilt => simp [exec, execReset, hl]
  | fresh => simp [exec, execReset, hl]

/-- Legal sizes construct the queue (R281). -/
theorem exec_reset_of_legal (h : s.lifecycle ≠ .running) (hp : (⟨k, posw, dropw⟩ : Params).Legal) :
    exec (.reset k posw dropw) s = .next (s.construct ⟨k, posw, dropw⟩) := by
  obtain ⟨hposw, hdropw⟩ := hp
  rw [exec_reset_of_not_running h, if_neg hposw.not_gt, if_neg (Nat.ne_of_gt hdropw)]

end

/-! ### Which capacities give a `K` -/

/-- The model's test, no capacity 0 and no two bits set, is met by the powers of two (R282). -/
theorem isPowerOfTwo_iff {c : Nat} : isPowerOfTwo c = true ↔ ∃ k, c = 2 ^ k := by
  by_cases hc : c = 0
  · simp [isPowerOfTwo, hc, (Nat.two_pow_pos _).ne]
  · simpa [isPowerOfTwo, Nat.isPowerOfTwo, hc] using Nat.and_sub_one_eq_zero_iff_isPowerOfTwo hc

theorem constructFromCapacity_of_not_two_pow {c : Nat} (h : ¬∃ k, c = 2 ^ k) (posw dropw : Nat)
    (s : State) : constructFromCapacity c posw dropw s = .refused (.notPowerOfTwo c) :=
  if_neg (mt isPowerOfTwo_iff.1 h)

/-- The capacity `2^K` stands for the `RESET` with `K` (R254). -/
theorem constructFromCapacity_two_pow (k posw dropw : Nat) (s : State) :
    constructFromCapacity (2 ^ k) posw dropw s = exec (.reset k posw dropw) s := by
  rw [constructFromCapacity, if_pos (isPowerOfTwo_iff.2 ⟨k, rfl⟩), Nat.log2_two_pow]
  rfl

/-! ### The obligations -/

/-- Settles O31: the state constructed is at rest with no frame pushed, so a pop finds it empty, and it
is in use, so a second `RESET` is refused. -/
theorem resetConstructsAnEmptyQueue : Obligations.ResetConstructsAnEmptyQueue := by
  intro k posw dropw s hl hposw hdropw
  have hp : (⟨k, posw, dropw⟩ : Params).Legal := ⟨hposw, hdropw⟩
  have hrest := State.AtRest.construct s hp
  have hempty : (s.construct ⟨k, posw, dropw⟩).occ = 0 := hrest.occ_eq
  have hpop := exec_popOperation_of_empty .pop hrest.popRefusal rfl
  exact ⟨_, exec_reset_of_legal hl hp, rfl, rfl, rfl, rfl, fun _ => rfl, rfl, rfl, rfl, rfl, rfl, hempty,
    rfl, rfl, rfl, rfl, rfl, ⟨_, hpop, rfl⟩, fun _ _ _ => exec_reset_of_running rfl⟩

/-- Settles O32: each refusal is one case of a `RESET` or of the capacity test. -/
theorem constructionRefusals : Obligations.ConstructionRefusals := by
  intro posw dropw s
  refine ⟨fun k hl hposw => ?_, fun k hl hposw => ?_, fun k hl => exec_reset_of_running hl,
    fun c hc => constructFromCapacity_of_not_two_pow hc posw dropw s,
    fun k => constructFromCapacity_two_pow k posw dropw s⟩
  · rw [exec_reset_of_not_running hl, if_pos hposw]
  · rw [exec_reset_of_not_running hl, if_neg hposw.not_gt, if_pos rfl]

end Sys2Proof.Machine
end
